-- ==== Sys2Proof/Word.lean ====
section
/-! DEFINITION. The widths of the block's data (00_scope.md R7). -/

namespace Sys2Proof

/-- A host-visible register, a command word, a timestamp: `REG_W` = `TICK_W` = 32 (R7, R23). -/
abbrev Word := BitVec 32

/-- A bus data byte, a sub-address, a WRITE_REG value: `BYTE_W` = `SUB_W` = 8 (R7). -/
abbrev Byte := BitVec 8

/-- A device bus address: `DEV_W` = 7 (R7, R13). -/
abbrev DevAddr := BitVec 7

/-- A line level: `true` is high (1), `false` is low (0) (R11, R43, R44). -/
abbrev Level := Bool

/-- The 16-byte block buffer `WB[0..15]` or its snapshot `bt.buf[0..15]` (R32, R40). -/
abbrev Block := Vector Byte 16

end Sys2Proof
end

