-- ==== Sys2Proof/Syntax.lean ====
section
/-! DEFINITION. The block's four commands, one constructor per row of spec/opcode_table.json. -/

namespace Sys2Proof

/-- A command of the block (30_encoding.md R107, R112). -/
inductive Instr where
  /-- `READ_REG dev, sub` (R102, R134). -/
  | readReg (dev : DevAddr) (sub : Byte)
  /-- `WRITE_REG dev, sub, val` (R103, R135). -/
  | writeReg (dev : DevAddr) (sub : Byte) (val : Byte)
  /-- `WRITE_BLOCK dev, len`; the bytes come from WBUF0 to WBUF3 (R104, R136). -/
  | writeBlock (dev : DevAddr) (len : BitVec 5)
  /-- `PULSE_MEASURE` (R105, R172). -/
  | pulseMeasure
deriving DecidableEq, Repr

/-- The two units of the block (R1). -/
inductive BlockUnit where
  /-- The bus transactor. -/
  | bt
  /-- The pulse-width timer. -/
  | pwt
deriving DecidableEq, Repr

end Sys2Proof
end

