-- ==== Sys2Proof/WellFormed.lean ====
section
/-! DEFINITION. Which commands have a word: the field constraints of the formats (30_encoding.md R101, R104). -/

namespace Sys2Proof

/-- A WRITE_BLOCK sends 1 to 16 bytes (R104, R108); the other commands have no constraint beyond their
fields' widths. -/
def Instr.wellFormed : Instr → Bool
  | .readReg _ _ => true
  | .writeReg _ _ _ => true
  | .writeBlock _ len => decide (1 ≤ len.toNat ∧ len.toNat ≤ 16)
  | .pulseMeasure => true

/-- The command is well formed. -/
abbrev Instr.WellFormed (i : Instr) : Prop := i.wellFormed = true

end Sys2Proof
end

