-- ==== Sys2Proof/Decode.lean ====
section
/-! DEFINITION. The command word: its fields, the total decoder that rejects by name, the encoder, the
assembler, and the opcode table (30_encoding.md). -/

namespace Sys2Proof

/-- Why a word is illegal (R108). -/
inductive IllegalWord where
  /-- OP is not 0x1, 0x2, 0x3 or 0x8. -/
  | opcode
  /-- A reserved bit of the format is 1 (R109). -/
  | reservedBit
  /-- OP is 0x3 and LEN is 0 or greater than 16. -/
  | blockLength
deriving DecidableEq, Repr

/-! ## Fields (R101, R106) -/

/-- `w[3:0]`. -/
def opField (w : Word) : BitVec 4 := w.extractLsb' 0 4

/-- `w[10:4]`. -/
def devField (w : Word) : DevAddr := w.extractLsb' 4 7

/-- `w[19:12]`. -/
def subField (w : Word) : Byte := w.extractLsb' 12 8

/-- `w[27:20]`. -/
def valField (w : Word) : Byte := w.extractLsb' 20 8

/-- `w[16:12]`. -/
def lenField (w : Word) : BitVec 5 := w.extractLsb' 12 5

/-- Bits 31..20 and bit 11, reserved in format RR (R109). -/
def reservedRR (w : Word) : Bool := w.extractLsb' 20 12 != 0#12 || w.extractLsb' 11 1 != 0#1

/-- Bits 31..28 and bit 11, reserved in format WR (R109). -/
def reservedWR (w : Word) : Bool := w.extractLsb' 28 4 != 0#4 || w.extractLsb' 11 1 != 0#1

/-- Bits 31..17 and bit 11, reserved in format WB (R109). -/
def reservedWB (w : Word) : Bool := w.extractLsb' 17 15 != 0#15 || w.extractLsb' 11 1 != 0#1

/-- Bits 31..4, reserved in format PM (R109). -/
def reservedPM (w : Word) : Bool := w.extractLsb' 4 28 != 0#28

/-! ## Decoder (R112) and encoder (R102 to R105) -/

/-- `decode(w)` of R112, with R108's reason where it answers ILLEGAL. -/
def decode (w : Word) : Except IllegalWord Instr :=
  if opField w = 0x1#4 then
    if reservedRR w then .error .reservedBit else .ok (.readReg (devField w) (subField w))
  else if opField w = 0x2#4 then
    if reservedWR w then .error .reservedBit
    else .ok (.writeReg (devField w) (subField w) (valField w))
  else if opField w = 0x3#4 then
    if reservedWB w then .error .reservedBit
    else if 1 ≤ (lenField w).toNat ∧ (lenField w).toNat ≤ 16 then
      .ok (.writeBlock (devField w) (lenField w))
    else .error .blockLength
  else if opField w = 0x8#4 then
    if reservedPM w then .error .reservedBit else .ok .pulseMeasure
  else .error .opcode

/-- A field's value with its lowest bit at bit `lo` of a word, the bits around it 0 (R101). -/
def placed {n : Nat} (v : BitVec n) (lo : Nat) : Word := v.setWidth 32 <<< lo

/-- The word of a command: OP and each field in its place, every reserved bit 0 (R101 to R105). It is a
command's word only for a well-formed command. -/
def encode : Instr → Word
  | .readReg dev sub => placed sub 12 ||| placed dev 4 ||| placed 0x1#4 0
  | .writeReg dev sub val => placed val 20 ||| placed sub 12 ||| placed dev 4 ||| placed 0x2#4 0
  | .writeBlock dev len => placed len 12 ||| placed dev 4 ||| placed 0x3#4 0
  | .pulseMeasure => placed 0x8#4 0

/-- `unit(c)` (R114). -/
def Instr.unit : Instr → BlockUnit
  | .readReg _ _ => .bt
  | .writeReg _ _ _ => .bt
  | .writeBlock _ _ => .bt
  | .pulseMeasure => .pwt

/-! ## The opcode table as masks (R102 to R105, R112) -/

/-- A row of the opcode table: a word belongs to it when `(w & mask) == value` and its field constraint
holds. -/
structure OpcodeRow where
  mask : Word
  value : Word
  /-- The row asks for 1 <= LEN <= 16 (R104). -/
  lenBounded : Bool
deriving DecidableEq, Repr

/-- The rows of opcode_table.json, in its order. -/
def opcodeTable : List OpcodeRow :=
  [ { mask := 0xFFF0080F#32, value := 0x00000001#32, lenBounded := false },
    { mask := 0xF000080F#32, value := 0x00000002#32, lenBounded := false },
    { mask := 0xFFFE080F#32, value := 0x00000003#32, lenBounded := true },
    { mask := 0xFFFFFFFF#32, value := 0x00000008#32, lenBounded := false } ]

/-- The word matches the row and meets its field constraint. -/
def OpcodeRow.accepts (r : OpcodeRow) (w : Word) : Bool :=
  w &&& r.mask == r.value &&
    (!r.lenBounded || decide (1 ≤ (lenField w).toNat ∧ (lenField w).toNat ≤ 16))

/-! ## Assembler (R115) -/

/-- A command as a host program writes it, its operands plain numbers (R115). -/
inductive Asm where
  | readReg (dev sub : Nat)
  | writeReg (dev sub val : Nat)
  | writeBlock (dev len : Nat)
  | pulseMeasure
deriving DecidableEq, Repr, Inhabited

/-- The command an assembler line stands for; `none` where an operand is out of range (R115). -/
def Asm.toInstr : Asm → Option Instr
  | .readReg dev sub =>
    if dev ≤ 0x7F ∧ sub ≤ 0xFF then some (.readReg (.ofNat 7 dev) (.ofNat 8 sub)) else none
  | .writeReg dev sub val =>
    if dev ≤ 0x7F ∧ sub ≤ 0xFF ∧ val ≤ 0xFF then
      some (.writeReg (.ofNat 7 dev) (.ofNat 8 sub) (.ofNat 8 val))
    else none
  | .writeBlock dev len =>
    if dev ≤ 0x7F ∧ 1 ≤ len ∧ len ≤ 16 then some (.writeBlock (.ofNat 7 dev) (.ofNat 5 len))
    else none
  | .pulseMeasure => some .pulseMeasure

/-- The assembled word: "An operand out of range is a syntax error, and the assembler emits no word." (R115) -/
def Asm.assemble (c : Asm) : Option Word := c.toInstr.map encode

/-! ## The host's question -/

/-- The command the decoder reads from the word `w` of `nbits` bits; a command is one 32-bit word and
nothing else (R100, R111). -/
def decodeTableWord (nbits w : Nat) : Option Instr :=
  if nbits ≤ 32 ∧ w < 2 ^ 32 then
    match decode (BitVec.ofNat 32 w) with
    | .ok i => some i
    | .error _ => none
  else none

end Sys2Proof
end

