-- ==== Sys2Proof/Machine/Agents.lean ====
section
/-! DEFINITION. What the agents around the block say to it and hear from it: bus primitives and the
transport's answers, the host's program and its driver calls, and the events that the total order of R80
is made of (00_scope.md R9). -/

namespace Sys2Proof.Machine

/-! ## The bus transport (R11, R12, R133) -/

/-- One call of the bus transport (R14): `W(dev,[...],hold/stop)` or `R(dev,n,hold/stop)` (R12).
`hold = true` keeps the bus (no stop condition). -/
inductive Primitive where
  | write (dev : DevAddr) (bytes : List Byte) (hold : Bool)
  | read (dev : DevAddr) (n : Nat) (hold : Bool)
deriving DecidableEq, Repr

/-- The two `BusError` kinds (R133, R232, R233). -/
inductive BusErrorKind where
  | noAck
  | timeout
deriving DecidableEq, Repr, Inhabited

/-- What the environment draws for one primitive (R133, U4): Ok or one of the two errors. A `read` is
always of one byte (R77), so Ok carries the byte a read returns; an Ok `write` returns no byte and the
drawn byte is not looked at. -/
inductive Draw where
  | ok (data : Byte)
  | error (kind : BusErrorKind)
deriving DecidableEq, Repr, Inhabited

/-- The transport's answer as a trace shows it (R12, R133): `Ok`, `Ok(b)`, `NoAck` or `Timeout`. -/
inductive Answer where
  | ok
  | okData (b : Byte)
  | error (kind : BusErrorKind)
deriving DecidableEq, Repr

/-- One line of a bus trace: a primitive and its answer (R12). -/
structure Transfer where
  prim : Primitive
  answer : Answer
deriving DecidableEq, Repr

/-! ## The host's reference driver (48_host_reference.md) -/

/-- An IEEE 754 binary64 value, as its 64 bits (R213). -/
abbrev Binary64 := BitVec 64

/-- The inertial driver's state (R204). -/
inductive DriverState where
  | uninitialized
  | verified
  | enabled
deriving DecidableEq, Repr

/-- A call of the host reference: the inertial driver's five (R205 to R209), its reconstruction (R204),
and the range driver's `measure()` (R214). -/
inductive DriverCall where
  | construct
  | identify
  | enable
  | readAngularRateZ
  | readAccelerationXY
  | readStatus
  | measure
deriving DecidableEq, Repr, Inhabited

/-- What a driver call returns. -/
inductive CallResult where
  /-- `Ok`. -/
  | ok
  /-- `SensorError::IdentityMismatch` (R205). -/
  | identityMismatch
  /-- `SensorError::Bus(kind)` (R203). -/
  | bus (kind : BusErrorKind)
  /-- The angular rate in rad/s (R207, R211). -/
  | angularRate (v : Binary64)
  /-- The accelerations in m/s² along X and Y (R208, R212). -/
  | acceleration (x y : Binary64)
  /-- The device's status byte (R209). -/
  | statusByte (b : Byte)
  /-- The distance in metres (R214). -/
  | distance (v : Binary64)
  /-- `RangeError::EchoTimeout` (R203, R214). -/
  | echoTimeout
deriving DecidableEq, Repr

/-- Where a running driver call stands with its current command: the host accesses that EXEC_BT or
EXEC_PWT and the reads after it are made of (R117, R205 to R209, R214). -/
inductive CallPhase where
  /-- Next: write the command word to CMD. -/
  | issue
  /-- Next: one read of STATUS in `WAIT 0x04, <busy mask>, 0`. -/
  | poll
  /-- Next: `R32 0x04 -> s`, and look at the unit's error bit. -/
  | status
  /-- Next: read the command's result register. -/
  | data
deriving DecidableEq, Repr

/-- A driver call under way: the commands still to run (the current one first), the result words read so
far, and the phase of the current command. -/
structure CallFrame where
  call : DriverCall
  todo : List Instr
  got : List Word
  phase : CallPhase
deriving DecidableEq, Repr

/-! ## The host's program (R116) -/

/-- One operation of the host's program. Offsets are from BASE (R116). -/
inductive HostOp where
  /-- `W32 <off>, <value>`. -/
  | w32 (off : Nat) (v : Word)
  /-- `R32 <off>`. -/
  | r32 (off : Nat)
  /-- `WAIT <off>, <mask>, <value>`: repeats the read until it matches. -/
  | wait (off : Nat) (mask value : Word)
  /-- `CMD <command>`. -/
  | cmd (c : Asm)
  /-- `MemRead(addr, n)` at a host address, of `n` bytes (R71, R72). -/
  | memRead (addr n : Nat)
  /-- `MemWrite(addr, n, v)` at a host address, of `n` bytes (R71, R72); a width other than 4 is refused,
  so only a 32-bit `v` is ever written. -/
  | memWrite (addr n : Nat) (v : Word)
  /-- A call of the host reference driver (R200). -/
  | call (c : DriverCall)
deriving DecidableEq, Repr, Inhabited

/-! ## Events (R9, R80) -/

/-- One atomic event of one agent. The total order of R80 is the order in which the machine takes them. -/
inductive Event where
  /-- The host performs the next operation of its program: one register access (R75). -/
  | host
  /-- The transport answers the outstanding primitive (R133). -/
  | answer (d : Draw)
  /-- The transport answers a primitive issued before a reset (R261). -/
  | lateAnswer (d : Draw)
  /-- One tick, with the echo level sampled at it (R171). -/
  | tick (echo : Level)
  /-- The platform resets the block (R260). -/
  | reset
deriving DecidableEq, Repr, Inhabited

end Sys2Proof.Machine
end

