-- ==== Sys2Proof/Config.lean ====
section
/-! DEFINITION. The OPEN parameters of the block and the free values: what the spec leaves to the platform
or to the environment. Every constant here is opaque, so no proof can know its value. -/

namespace Sys2Proof

open Sys2Proof.Machine

/-- The OPEN parameters of R7. They are an argument of the model: State carries them, no step changes
them, and a statement about every state is a statement about every value of them. -/
structure Params where
  /-- `BASE`: the host address of register offset 0x00 (U13). -/
  base : Nat
  /-- `TRIG_LOW_TICKS`: ticks of the pre-trigger low level (U11). -/
  trigLow : Word
  /-- `TRIG_HIGH_TICKS`: ticks of the trigger high level (U11). -/
  trigHigh : Word
  /-- `TICKS_PER_SECOND`, read by the host reference alone (U12). -/
  ticksPerSecond : Nat
  /-- `BUS_DEADLINE`, inside the transport; no rule reads it (U10). -/
  busDeadline : Nat
deriving DecidableEq, Repr

/-- The legal values of R7: BASE aligned to 0x40, the trigger lengths at least 1, the tick rate above 0. -/
abbrev Params.Legal (p : Params) : Prop :=
  p.base % 0x40 = 0 ∧ p.trigLow ≠ 0#32 ∧ p.trigHigh ≠ 0#32 ∧ 0 < p.ticksPerSecond

/-- What R48 leaves unspecified after a reset (U1, U2). -/
structure ResetDraw where
  ticks : Word
  dev : DevAddr
  sub : Byte
  val : Byte
  len : BitVec 5
  buf : Block
  r : Word
  timeout : Word
deriving DecidableEq, Repr, Inhabited

namespace Config

/-- `BASE` / 0x40 (R7, OPEN). Free value (DESIGN CHOICE, log entry 2). -/
opaque baseWindow : Nat

/-- `TRIG_LOW_TICKS` - 1, below 2^32 - 1 (R7, OPEN). Free value (log entry 2). -/
opaque trigLowLess : Fin 4294967295

/-- `TRIG_HIGH_TICKS` - 1, below 2^32 - 1 (R7, OPEN). Free value (log entry 2). -/
opaque trigHighLess : Fin 4294967295

/-- `TICKS_PER_SECOND` - 1 (R7, OPEN). Free value (log entry 2). -/
opaque tickRateLess : Nat

/-- `BUS_DEADLINE` (R7, OPEN). Free value (log entry 2). -/
opaque busDeadline : Nat

/-- The parameters a machine out of reset has: any legal ones. -/
def params : Params where
  base := 0x40 * baseWindow
  trigLow := BitVec.ofNat 32 (trigLowLess.val + 1)
  trigHigh := BitVec.ofNat 32 (trigHighLess.val + 1)
  ticksPerSecond := tickRateLess + 1
  busDeadline := busDeadline

/-- The unspecified values of the `n`-th reset (R48, R264, U1, U2). Free value (DESIGN CHOICE,
log entry 1). -/
opaque resetDraw : Nat → ResetDraw

/-- The event that comes next where none is queued: agents interleave freely, and an answer or an echo
level is a draw (R9, R80, U4, U5, U20). Free value (DESIGN CHOICE, log entry 3). -/
opaque freeEvent : Nat → Event

/-- The host's next operation where its program says none: the host may do anything (R87). Free value (DESIGN CHOICE, log
entry 4). -/
opaque freeHostOp : Nat → HostOp

/-- The error kind a host reads from a BT_ERRCODE that is neither 01 nor 10 (U14). Free value (DESIGN
CHOICE, log entry 14). -/
opaque freeBusError : BitVec 2 → BusErrorKind

/-- The bits of a binary64 operation's NaN result, which R213 does not give. Free value (DESIGN CHOICE, log
entry 15). -/
opaque nanResult : Binary64 → Binary64 → Binary64

end Config

end Sys2Proof
end

