-- ==== Sys2Proof/Machine/State.lean ====
section
/-! DEFINITION. The machine's state (10_state.md), its stops, and the state right after reset (R48). -/

namespace Sys2Proof.Machine

/-- The fields of STATUS (R26). Its reserved bits are hardwired to 0 (R23), so they hold nothing; the
32-bit view is `Status.word`. -/
structure Status where
  btBusy : Bool
  btDone : Bool
  btErr : Bool
  btErrCode : BitVec 2
  btErrStep : BitVec 2
  pwtBusy : Bool
  pwtDone : Bool
  pwtErr : Bool
  pwtErrPhase : BitVec 2
  cmdIllegal : Bool
  cmdReject : Bool
deriving DecidableEq, Repr

/-- `bt.state` (R40, R130). -/
inductive BtState where
  /-- No operation in flight. -/
  | idle
  /-- The address phase of a READ_REG is outstanding. -/
  | addr
  /-- The data phase of a READ_REG is outstanding. -/
  | data
  /-- The single write of a WRITE_REG or WRITE_BLOCK is outstanding. -/
  | write
deriving DecidableEq, Repr

/-- The BT's hidden state (R40, R41). -/
structure Bt where
  state : BtState
  dev : DevAddr
  sub : Byte
  val : Byte
  len : BitVec 5
  buf : Block
  held : Bool
deriving DecidableEq, Repr

/-- `pwt.state` (R42, R170). -/
inductive PwtState where
  | idle
  | trigLow
  | trigHigh
  | waitRise
  | waitFall
deriving DecidableEq, Repr

/-- The PWT's hidden state (R42). -/
structure Pwt where
  state : PwtState
  r : Word
  timeout : Word
deriving DecidableEq, Repr

/-- The host: its program, the driver call under way (if any), the values its reads returned (oldest
first), the reference driver's state (R204) and what its calls returned (oldest first). -/
structure HostSide where
  program : List HostOp
  call : Option CallFrame
  reads : List Word
  driver : DriverState
  results : List CallResult
deriving DecidableEq, Repr

/-- The machine: the block, the tick counter, the transport's end of the bus, the host, and the events to
come. -/
structure State where
  /-- STATUS (R26). -/
  status : Status
  /-- RDATA (R31). -/
  rdata : Word
  /-- WBUF0 to WBUF3 (R32). -/
  wbuf0 : Word
  wbuf1 : Word
  wbuf2 : Word
  wbuf3 : Word
  /-- PWT_TIMEOUT (R33). -/
  pwtTimeout : Word
  /-- PWT_START (R34). -/
  pwtStart : Word
  /-- PWT_END (R35). -/
  pwtEnd : Word
  /-- PWT_DURATION (R36). -/
  pwtDuration : Word
  /-- `bt.*` (R40, R41). -/
  bt : Bt
  /-- `pwt.*` (R42). -/
  pwt : Pwt
  /-- `TrigOut` (R43). -/
  trigOut : Level
  /-- The tick counter, read as TICKS (R37, R45). -/
  ticks : Word
  /-- The primitive outstanding at the transport (R40, R83). -/
  outstanding : Option Primitive
  /-- Primitives issued before a reset that the transport has not answered, oldest first (R261). -/
  orphans : List Primitive
  /-- The bus trace: every answered primitive with its answer, oldest first (R12). -/
  trace : List Transfer
  /-- The host (R9, R75, R116, R204). -/
  host : HostSide
  /-- The OPEN parameters (R7). No step changes them. -/
  par : Params
  /-- Events queued to happen next, in the order of R80. The model's own field: where it is empty the next
  event is a free value. -/
  events : List Event
  /-- How many free values have been taken. The model's own field. -/
  draws : Nat
deriving DecidableEq, Repr

/-- Reasons the machine stops with a fault. The type has no constructor, so nothing raises one: "The block
does not trap" (60_exceptions.md), and each of its errors is a STATUS report after which it goes on
(R231). Safe: no stop stands in for an effect. -/
inductive Fault where
deriving DecidableEq, Repr

/-- Reasons a run has no meaning. -/
inductive Refusal where
  /-- An instruction the model gives no meaning. Raised by `exec`'s refused arms, of which there are none.
  Safe. -/
  | notModelled (mnemonic : String)
  /-- A host access that is not an aligned 32-bit access inside the window. Raised by the host's accesses
  (R72, U3: "a model must treat such an access as a *refusal*"). Safe. -/
  | hostAccessOutsideContract
  /-- A driver call made in the wrong driver state. Raised by the host reference driver (R216, U18: "a
  model must refuse a host program that makes one"). Safe. -/
  | driverCallInWrongState
  /-- A driver's command written while its unit is busy. Raised by the host reference driver (R203, D35: "a
  model refuses such a program"); the same word written by any other host operation runs. Safe. -/
  | driverCommandWhileBusy
  /-- An assembler line with an operand out of range. Raised by the host operation CMD, which then has no
  word to write (R115: "the assembler emits no word"). Safe. -/
  | assemblerOperandRange
deriving DecidableEq, Repr

/-- STATUS = 0x00000000. -/
def Status.zero : Status where
  btBusy := false
  btDone := false
  btErr := false
  btErrCode := 0b00#2
  btErrStep := 0b00#2
  pwtBusy := false
  pwtDone := false
  pwtErr := false
  pwtErrPhase := 0b00#2
  cmdIllegal := false
  cmdReject := false

/-- The machine right after reset (R48, R260, R262): every element at R48's value, and what R48 leaves
unspecified at the free values of the first reset. The host has no program yet, its driver is new (R204),
and no event is queued. -/
def State.reset : State where
  status := Status.zero
  rdata := 0#32
  wbuf0 := 0#32
  wbuf1 := 0#32
  wbuf2 := 0#32
  wbuf3 := 0#32
  pwtTimeout := 0#32
  pwtStart := 0#32
  pwtEnd := 0#32
  pwtDuration := 0#32
  bt :=
    { state := .idle
      dev := (Config.resetDraw 0).dev
      sub := (Config.resetDraw 0).sub
      val := (Config.resetDraw 0).val
      len := (Config.resetDraw 0).len
      buf := (Config.resetDraw 0).buf
      held := false }
  pwt :=
    { state := .idle
      r := (Config.resetDraw 0).r
      timeout := (Config.resetDraw 0).timeout }
  trigOut := false
  ticks := (Config.resetDraw 0).ticks
  outstanding := none
  orphans := []
  trace := []
  host := { program := [], call := none, reads := [], driver := .uninitialized, results := [] }
  par := Config.params
  events := []
  draws := 1

end Sys2Proof.Machine
end

