-- ==== Sys2Proof/Machine/Binary64.lean ====
section
/-! DEFINITION. The binary64 arithmetic of the host reference: exact conversion, one product, one quotient,
each rounded to nearest with ties to even (48_host_reference.md R213). -/

namespace Sys2Proof.Machine

/-- The sign bit. -/
def f64Neg (b : Binary64) : Bool := b.getLsbD 63

/-- The biased exponent field. -/
def f64Exp (b : Binary64) : Nat := (b.extractLsb' 52 11).toNat

/-- The fraction field. -/
def f64Frac (b : Binary64) : Nat := (b.extractLsb' 0 52).toNat

/-- Not an infinity and not a NaN. -/
def f64Finite (b : Binary64) : Bool := f64Exp b != 2047

/-- A NaN. -/
def f64IsNaN (b : Binary64) : Bool := f64Exp b == 2047 && f64Frac b != 0

/-- The integer `m` of a finite value `±m * 2^(e - 1075)`. -/
def f64Mant (b : Binary64) : Nat := if f64Exp b = 0 then f64Frac b else 2 ^ 52 + f64Frac b

/-- The exponent `e` (biased, at least 1) of a finite value `±m * 2^(e - 1075)`. -/
def f64Scale (b : Binary64) : Nat := if f64Exp b = 0 then 1 else f64Exp b

/-- A sign and the 63 bits below it. -/
def f64Pack (neg : Bool) (low : Nat) : Binary64 :=
  BitVec.ofNat 64 ((if neg then 2 ^ 63 else 0) + low)

/-- Infinity. -/
def f64Inf (neg : Bool) : Binary64 := f64Pack neg (2047 * 2 ^ 52)

/-- `num / den` rounded to an integer, to nearest, ties to even. -/
def roundHalfEven (num den : Nat) : Nat :=
  let q := num / den
  let r := num % den
  if den < 2 * r || (2 * r == den && q % 2 == 1) then q + 1 else q

/-- `num * 2^k` over `den * 2^-k`, as a numerator and a denominator. -/
def scaleRatio (num den : Nat) (k : Int) : Nat × Nat :=
  match k with
  | .ofNat n => (num * 2 ^ n, den)
  | .negSucc n => (num, den * 2 ^ (n + 1))

/-- The exponent of the last place of the binary64 value nearest to `num / den` (both positive): 52 below
the ratio's own exponent, and never below -1074. -/
def lastPlace (num den : Nat) : Int :=
  let e : Int := (Nat.log2 num : Int) - (Nat.log2 den : Int) - 52
  let (n, d) := scaleRatio num den (-e)
  max (if n < 2 ^ 52 * d then e - 1 else e) (-1074)

/-- The binary64 value nearest to `±num / den`, ties to even; infinity where that is out of range. -/
def roundRatio (neg : Bool) (num den : Nat) : Binary64 :=
  if num = 0 then f64Pack neg 0
  else
    let e := lastPlace num den
    let (n, d) := scaleRatio num den (-e)
    let low := (e + 1074).toNat * 2 ^ 52 + roundHalfEven n d
    if 2047 * 2 ^ 52 ≤ low then f64Inf neg else f64Pack neg low

/-- `a * b` of binary64 (R213). -/
def f64Mul (a b : Binary64) : Binary64 :=
  let neg := f64Neg a != f64Neg b
  if f64IsNaN a || f64IsNaN b then Config.nanResult a b
  else if f64Finite a && f64Finite b then
    let (n, d) := scaleRatio (f64Mant a * f64Mant b) 1 ((f64Scale a : Int) + f64Scale b - 2150)
    roundRatio neg n d
  else if (f64Finite a && f64Mant a == 0) || (f64Finite b && f64Mant b == 0) then
    Config.nanResult a b
  else f64Inf neg

/-- `a / b` of binary64 (R213). -/
def f64Div (a b : Binary64) : Binary64 :=
  let neg := f64Neg a != f64Neg b
  if f64IsNaN a || f64IsNaN b then Config.nanResult a b
  else if f64Finite a then
    if f64Finite b then
      if f64Mant b = 0 then if f64Mant a = 0 then Config.nanResult a b else f64Inf neg
      else
        let (n, d) := scaleRatio (f64Mant a) (f64Mant b) ((f64Scale a : Int) - f64Scale b)
        roundRatio neg n d
    else f64Pack neg 0
  else if f64Finite b then f64Inf neg
  else Config.nanResult a b

/-- An integer as a binary64 value; exact for every raw sample and every tick count (R213). -/
def f64OfInt (x : Int) : Binary64 := roundRatio (decide (x < 0)) x.natAbs 1

end Sys2Proof.Machine
end

