-- ==== Sys2Proof/Machine/Flags.lean ====
section
/-! DEFINITION. STATUS: its 32-bit view, the host's W1C write, and every way the units and the command port
write its fields (10_state.md R26 to R30, R47). -/

namespace Sys2Proof.Machine

/-- A flag at bit `i` of a word. -/
def flagBit (b : Bool) (i : Nat) : Word := placed (BitVec.ofBool b) i

/-- STATUS as the host reads it, each field in its place (R26); the reserved bits read 0 (R23). -/
def Status.word (f : Status) : Word :=
  flagBit f.btBusy 0 ||| flagBit f.btDone 1 ||| flagBit f.btErr 2
    ||| placed f.btErrCode 3 ||| placed f.btErrStep 5
    ||| flagBit f.pwtBusy 8 ||| flagBit f.pwtDone 9 ||| flagBit f.pwtErr 10
    ||| placed f.pwtErrPhase 11
    ||| flagBit f.cmdIllegal 16 ||| flagBit f.cmdReject 17

/-- A host write of `v` to STATUS: each W1C field whose bit in `v` is 1 is cleared, nothing else changes
(R27). -/
def Status.writeOneToClear (f : Status) (v : Word) : Status :=
  { f with
    btDone := f.btDone && !v.getLsbD 1
    btErr := f.btErr && !v.getLsbD 2
    pwtDone := f.pwtDone && !v.getLsbD 9
    pwtErr := f.pwtErr && !v.getLsbD 10
    cmdIllegal := f.cmdIllegal && !v.getLsbD 16
    cmdReject := f.cmdReject && !v.getLsbD 17 }

/-- A word that does not decode was written to CMD (R30, R113, R235). -/
def Status.setIllegal (f : Status) : Status := { f with cmdIllegal := true }

/-- A legal command was written to CMD while its unit was busy (R30, R113, R236). -/
def Status.setReject (f : Status) : Status := { f with cmdReject := true }

/-- The BT accepts a command (R28, R131). -/
def Status.btAccept (f : Status) : Status :=
  { f with btBusy := true, btDone := false, btErr := false, btErrCode := 0b00#2, btErrStep := 0b00#2 }

/-- The BT's operation ends without error (R132 `finish_ok`). -/
def Status.btFinishOk (f : Status) : Status := { f with btBusy := false, btDone := true }

/-- Which primitive of a BT operation failed (R26 BT_ERRSTEP). -/
inductive BusStep where
  /-- The address phase of a READ_REG, or the only write of a WRITE_REG or WRITE_BLOCK. -/
  | first
  /-- The data phase of a READ_REG. -/
  | second
deriving DecidableEq, Repr

/-- BT_ERRCODE of an error kind (R132, R230). -/
def errCode : BusErrorKind → BitVec 2
  | .noAck => 0b01#2
  | .timeout => 0b10#2

/-- BT_ERRSTEP of a step (R132). -/
def errStep : BusStep → BitVec 2
  | .first => 0b01#2
  | .second => 0b10#2

/-- The BT's operation ends with an error (R132 `finish_err`). -/
def Status.btFinishErr (f : Status) (e : BusErrorKind) (step : BusStep) : Status :=
  { f with
    btBusy := false
    btDone := true
    btErr := true
    btErrCode := errCode e
    btErrStep := errStep step }

/-- The PWT accepts PULSE_MEASURE (R29, R172). -/
def Status.pwtAccept (f : Status) : Status :=
  { f with pwtBusy := true, pwtDone := false, pwtErr := false, pwtErrPhase := 0b00#2 }

/-- A measurement ends without error (R172 `pfinish_ok`). -/
def Status.pwtFinishOk (f : Status) : Status := { f with pwtBusy := false, pwtDone := true }

/-- Which echo wait timed out (R26 PWT_ERRPHASE). -/
inductive WaitPhase where
  | rise
  | fall
deriving DecidableEq, Repr

/-- PWT_ERRPHASE of a wait (R172). -/
def errPhase : WaitPhase → BitVec 2
  | .rise => 0b01#2
  | .fall => 0b10#2

/-- A measurement ends with EchoTimeout (R172 `pfinish_err`). -/
def Status.pwtFinishErr (f : Status) (ph : WaitPhase) : Status :=
  { f with pwtBusy := false, pwtDone := true, pwtErr := true, pwtErrPhase := errPhase ph }

end Sys2Proof.Machine
end

