-- ==== Sys2Proof/Machine/Operands.lean ====
section
/-! DEFINITION. What a command's operands stand for: the block buffer's bytes, the commands' first bus
primitives, and the busy bit a command looks at (R32, R85, R113, R131, R134 to R136). -/

namespace Sys2Proof.Machine

/-- Byte `k` (0 to 3) of a word, little-endian: bits `[8*k+7 : 8*k]` (R32, R73). -/
def wordByte (w : Word) (k : Nat) : Byte := w.extractLsb' (8 * k) 8

/-- The snapshot of `WB[0..15]`: `WB[i]` is bits `[8*(i mod 4)+7 : 8*(i mod 4)]` of WBUF(i div 4) (R32). -/
def State.block (s : State) : Block :=
  #v[wordByte s.wbuf0 0, wordByte s.wbuf0 1, wordByte s.wbuf0 2, wordByte s.wbuf0 3,
     wordByte s.wbuf1 0, wordByte s.wbuf1 1, wordByte s.wbuf1 2, wordByte s.wbuf1 3,
     wordByte s.wbuf2 0, wordByte s.wbuf2 1, wordByte s.wbuf2 2, wordByte s.wbuf2 3,
     wordByte s.wbuf3 0, wordByte s.wbuf3 1, wordByte s.wbuf3 2, wordByte s.wbuf3 3]

/-- The first `len` bytes of a block, in index order (R74, R136). -/
def blockBytes (b : Block) (len : BitVec 5) : List Byte := b.toList.take len.toNat

/-- The address phase of a READ_REG: the sub-address, with the bus held (R134). -/
def addressPhase (dev : DevAddr) (sub : Byte) : Primitive := .write dev [sub] true

/-- The data phase of a READ_REG: one byte, with a stop (R134). -/
def dataPhase (dev : DevAddr) : Primitive := .read dev 1 false

/-- The write of a WRITE_REG: sub-address, then value, with a stop (R135). -/
def registerWrite (dev : DevAddr) (sub val : Byte) : Primitive := .write dev [sub, val] false

/-- The write of a WRITE_BLOCK: the first `len` bytes of the buffer, with a stop (R136). -/
def blockWrite (dev : DevAddr) (buf : Block) (len : BitVec 5) : Primitive :=
  .write dev (blockBytes buf len) false

/-- `REG[STATUS.<u>_BUSY]` (R113). -/
def State.busy (s : State) : BlockUnit → Bool
  | .bt => s.status.btBusy
  | .pwt => s.status.pwtBusy

/-- The answer a draw gives a primitive (R133): a read that is Ok returns the drawn byte, a write none. -/
def Primitive.answer : Primitive → Draw → Answer
  | .write _ _ _, .ok _ => .ok
  | .read _ _ _, .ok b => .okData b
  | _, .error k => .error k

end Sys2Proof.Machine
end

