-- ==== Sys2Proof/Machine/Ops.lean ====
section
/-! DEFINITION. The named operations every meaning is built from: refusing and accepting a command, issuing
a primitive, ending an operation with or without an error, and reset. The block's "exceptions" are error
reports: `State.btRaise` and `State.pwtRaise` are their one entry, and there is no return from one (R231,
R243, R245). -/

namespace Sys2Proof.Machine

/-! ## The command port (R113) -/

/-- An illegal word: CMD_ILLEGAL, and nothing else (R108, R113, R235). -/
def State.refuseIllegal (s : State) : State := { s with status := s.status.setIllegal }

/-- A legal command for a busy unit: CMD_REJECT, and nothing else (R113, R236). -/
def State.rejectBusy (s : State) : State := { s with status := s.status.setReject }

/-- The busy check and the acceptance of a legal command `c` (R113, R239): `start` is `start(c)`. -/
def State.accept (s : State) (u : BlockUnit) (start : State → State) : State :=
  if s.busy u then s.rejectBusy else start s

/-! ## The bus transactor -/

/-- The BT issues a primitive: it is outstanding at the transport (R11, R40). -/
def State.issue (s : State) (p : Primitive) : State := { s with outstanding := some p }

/-- The transport's answer arrives: the outstanding primitive and its answer join the bus trace, and no
primitive is outstanding (R12, R133). -/
def State.record (s : State) (d : Draw) : State :=
  { s with
    outstanding := none
    trace := s.trace ++ (s.outstanding.map fun p => (⟨p, p.answer d⟩ : Transfer)).toList }

/-- The part of `start(c)` that is the same for every BT command (R131). -/
def State.btStart (s : State) (dev : DevAddr) (state : BtState) : State :=
  { s with bt := { s.bt with dev := dev, state := state }, status := s.status.btAccept }

/-- `finish_ok` (R132). -/
def State.btFinish (s : State) : State :=
  { s with bt := { s.bt with state := .idle }, status := s.status.btFinishOk }

/-- `finish_err(e, step)`, the BT's `raise` (R132, R231). -/
def State.btRaise (s : State) (e : BusErrorKind) (step : BusStep) : State :=
  { s with bt := { s.bt with state := .idle }, status := s.status.btFinishErr e step }

/-- `bt.held <- v` (R41). -/
def State.setHeld (s : State) (v : Bool) : State := { s with bt := { s.bt with held := v } }

/-! ## The pulse-width timer -/

/-- The PWT enters a phase with `r` ticks remaining (R172). -/
def State.pwtEnter (s : State) (state : PwtState) (r : Word) : State :=
  { s with pwt := { s.pwt with state := state, r := r } }

/-- `pwt.r <- pwt.r - 1` (R172). -/
def State.pwtCountDown (s : State) : State := { s with pwt := { s.pwt with r := s.pwt.r - 1#32 } }

/-- `TrigOut <- l` (R11, R43). -/
def State.setTrig (s : State) (l : Level) : State := { s with trigOut := l }

/-- `pfinish_ok` (R172). -/
def State.pwtFinish (s : State) : State :=
  { s with pwt := { s.pwt with state := .idle }, status := s.status.pwtFinishOk }

/-- `pfinish_err(ph)`, the PWT's `raise` of EchoTimeout (R172, R231, R234). -/
def State.pwtRaise (s : State) (ph : WaitPhase) : State :=
  { s with pwt := { s.pwt with state := .idle }, status := s.status.pwtFinishErr ph }

/-! ## Reset (R48, R260 to R264) -/

/-- The platform resets the block: every element of the block's state takes R48's value at once, what R48
leaves unspecified (the tick counter's value among it) takes a fresh free value, and a primitive the
transport has not answered is left to it as an orphan (R261). The transport, the host and the events to
come are not the block's and stay (R263). -/
def State.blockReset (s : State) : State :=
  { s with
    status := Status.zero
    rdata := 0#32
    wbuf0 := 0#32
    wbuf1 := 0#32
    wbuf2 := 0#32
    wbuf3 := 0#32
    pwtTimeout := 0#32
    pwtStart := 0#32
    pwtEnd := 0#32
    pwtDuration := 0#32
    bt :=
      { state := .idle
        dev := (Config.resetDraw s.draws).dev
        sub := (Config.resetDraw s.draws).sub
        val := (Config.resetDraw s.draws).val
        len := (Config.resetDraw s.draws).len
        buf := (Config.resetDraw s.draws).buf
        held := false }
    pwt :=
      { state := .idle
        r := (Config.resetDraw s.draws).r
        timeout := (Config.resetDraw s.draws).timeout }
    trigOut := false
    ticks := (Config.resetDraw s.draws).ticks
    outstanding := none
    orphans := s.orphans ++ s.outstanding.toList
    draws := s.draws + 1 }

/-- The transport answers the oldest primitive issued before a reset: the BT discards the answer (R261;
DESIGN CHOICE for their order, log entry 5). -/
def State.discardLate (s : State) : State := { s with orphans := s.orphans.tail }

end Sys2Proof.Machine
end

