-- ==== Sys2Proof/Machine/BusTransactor.lean ====
section
/-! DEFINITION. The bus transactor: the acceptance of READ_REG, WRITE_REG and WRITE_BLOCK, and the answer
events that carry their operations on (41_bus_transactor.md). -/

namespace Sys2Proof.Machine

/-- READ_REG written to CMD (R113, R131, R134): the busy check, the start, and the issue of the address
phase, one atomic event. The rest of the operation is `btAnswer`. -/
def execReadReg (dev : DevAddr) (sub : Byte) (s : State) : Host.Outcome State Fault Refusal :=
  .next (s.accept .bt fun s =>
    let s := s.btStart dev .addr
    let s := { s with bt := { s.bt with sub := sub } }
    s.issue (addressPhase s.bt.dev s.bt.sub))

/-- WRITE_REG written to CMD (R113, R131, R135). -/
def execWriteReg (dev : DevAddr) (sub val : Byte) (s : State) : Host.Outcome State Fault Refusal :=
  .next (s.accept .bt fun s =>
    let s := s.btStart dev .write
    let s := { s with bt := { s.bt with sub := sub, val := val } }
    s.issue (registerWrite s.bt.dev s.bt.sub s.bt.val))

/-- WRITE_BLOCK written to CMD (R113, R131, R136). With LEN 0 or above 16 it is no command: its word is
illegal and nothing is issued (R108, R136; DEDUCED, log entry 12). -/
def execWriteBlock (dev : DevAddr) (len : BitVec 5) (s : State) : Host.Outcome State Fault Refusal :=
  .next (if (Instr.writeBlock dev len).wellFormed then
    s.accept .bt fun s =>
      let s := s.btStart dev .write
      let s := { s with bt := { s.bt with len := len, buf := s.block } }
      s.issue (blockWrite s.bt.dev s.bt.buf s.bt.len)
  else s.refuseIllegal)

/-- `on answer a while bt.state == ADDR` (R134, R139, R140). -/
def addrAnswer (s : State) : Draw → State
  | .ok _ =>
    let s := s.setHeld true
    let s := { s with bt := { s.bt with state := .data } }
    s.issue (dataPhase s.bt.dev)
  | .error e => (s.setHeld false).btRaise e .first

/-- `on answer a while bt.state == DATA` (R134, R143). -/
def dataAnswer (s : State) : Draw → State
  | .ok b => { s.setHeld false with rdata := b.setWidth 32 }.btFinish
  | .error e => (s.setHeld false).btRaise e .second

/-- `on answer a while bt.state == WRITE` (R135, R136). -/
def writeAnswer (s : State) : Draw → State
  | .ok _ => s.btFinish
  | .error e => s.btRaise e .first

/-- The transport answers the outstanding primitive (R130, R133). In IDLE no primitive is outstanding and
no transition leaves IDLE but an acceptance, so an answer changes nothing (R130, R261; DESIGN CHOICE,
log entry 5). -/
def State.btAnswer (s : State) (d : Draw) : State :=
  match s.bt.state with
  | .idle => s
  | .addr => addrAnswer (s.record d) d
  | .data => dataAnswer (s.record d) d
  | .write => writeAnswer (s.record d) d

end Sys2Proof.Machine
end

