-- ==== Sys2Proof/Machine/PulseTimer.lean ====
section
/-! DEFINITION. The pulse-width timer: the acceptance of PULSE_MEASURE and the tick event that carries a
measurement on (42_pulse_timer.md). -/

namespace Sys2Proof.Machine

/-- PULSE_MEASURE written to CMD (R113, R172). The measurement itself is `State.tick`. -/
def execPulseMeasure (s : State) : Host.Outcome State Fault Refusal :=
  .next (s.accept .pwt fun s =>
    let s := { s with
      pwt := { s.pwt with timeout := s.pwtTimeout }
      pwtStart := 0#32
      pwtEnd := 0#32
      pwtDuration := 0#32
      status := s.status.pwtAccept }
    (s.setTrig false).pwtEnter .trigLow s.par.trigLow)

/-- A tick in TRIG_LOW (R172). -/
def trigLowTick (s : State) : State :=
  let s := s.pwtCountDown
  if s.pwt.r = 0#32 then (s.setTrig true).pwtEnter .trigHigh s.par.trigHigh else s

/-- A tick in TRIG_HIGH (R172). -/
def trigHighTick (s : State) : State :=
  let s := s.pwtCountDown
  if s.pwt.r = 0#32 then (s.setTrig false).pwtEnter .waitRise s.pwt.timeout else s

/-- A tick `t` in WAIT_RISE with echo `e`; the timeout check comes before the sample (R172, R174, R241). -/
def waitRiseTick (t : Word) (e : Level) (s : State) : State :=
  if s.pwt.r = 0#32 then s.pwtRaise .rise
  else if e then { s with pwtStart := t }.pwtEnter .waitFall s.pwt.timeout
  else s.pwtCountDown

/-- A tick `t` in WAIT_FALL with echo `e`; the timeout check comes before the sample (R172, R175, R176,
R241). -/
def waitFallTick (t : Word) (e : Level) (s : State) : State :=
  if s.pwt.r = 0#32 then s.pwtRaise .fall
  else if e then s.pwtCountDown
  else { s with pwtEnd := t, pwtDuration := t - s.pwtStart }.pwtFinish

/-- The step of R172 at a tick `t` with echo `e`. -/
def State.pwtTick (s : State) (t : Word) (e : Level) : State :=
  match s.pwt.state with
  | .idle => s
  | .trigLow => trigLowTick s
  | .trigHigh => trigHighTick s
  | .waitRise => waitRiseTick t e s
  | .waitFall => waitFallTick t e s

/-- The tick event: sample, step, and advance the counter by 1 modulo 2^32 (R45, R171). -/
def State.tick (s : State) (e : Level) : State :=
  let t := s.ticks
  let s := s.pwtTick t e
  { s with ticks := t + 1#32 }

end Sys2Proof.Machine
end

