-- ==== Sys2Proof/Machine/Dispatch.lean ====
section
/-! DEFINITION. One arm per command: the meaning of the command's acceptance (30_encoding.md R113). -/

namespace Sys2Proof.Machine

def exec (i : Instr) (s : State) : Host.Outcome State Fault Refusal :=
  match i with
  | .readReg dev sub => Sys2Proof.Machine.execReadReg dev sub s
  | .writeReg dev sub val => Sys2Proof.Machine.execWriteReg dev sub val s
  | .writeBlock dev len => Sys2Proof.Machine.execWriteBlock dev len s
  | .pulseMeasure => Sys2Proof.Machine.execPulseMeasure s

end Sys2Proof.Machine
end

