-- ==== Sys2Proof/Machine/Window.lean ====
section
/-! DEFINITION. The register window: the map of offsets, the host's reads and writes of a register, and
the accesses outside the contract (10_state.md R23 to R39, 20_memory.md R71, R72, R76). -/

namespace Sys2Proof.Machine

/-- What stands at an offset of the window (R24). -/
inductive Reg where
  | cmd
  | status
  | rdata
  | wbuf0
  | wbuf1
  | wbuf2
  | wbuf3
  | pwtTimeout
  | pwtStart
  | pwtEnd
  | pwtDuration
  | ticks
  /-- Offsets 0x1C, 0x34, 0x38 and 0x3C (R38). -/
  | reserved
deriving DecidableEq, Repr

/-- The register map: `none` where the offset is not a multiple of 4 in 0x00 to 0x3C (R24, R71). -/
def regAt : Nat → Option Reg
  | 0x00 => some .cmd
  | 0x04 => some .status
  | 0x08 => some .rdata
  | 0x0C => some .wbuf0
  | 0x10 => some .wbuf1
  | 0x14 => some .wbuf2
  | 0x18 => some .wbuf3
  | 0x1C => some .reserved
  | 0x20 => some .pwtTimeout
  | 0x24 => some .pwtStart
  | 0x28 => some .pwtEnd
  | 0x2C => some .pwtDuration
  | 0x30 => some .ticks
  | 0x34 => some .reserved
  | 0x38 => some .reserved
  | 0x3C => some .reserved
  | _ => none

/-- The value of a register: `REG[name]` (R24, R25, R31 to R38). -/
def State.regValue (s : State) : Reg → Word
  | .cmd => 0#32
  | .status => s.status.word
  | .rdata => s.rdata
  | .wbuf0 => s.wbuf0
  | .wbuf1 => s.wbuf1
  | .wbuf2 => s.wbuf2
  | .wbuf3 => s.wbuf3
  | .pwtTimeout => s.pwtTimeout
  | .pwtStart => s.pwtStart
  | .pwtEnd => s.pwtEnd
  | .pwtDuration => s.pwtDuration
  | .ticks => s.ticks
  | .reserved => 0#32

/-- A host write of `w` to CMD: decode, then what the command's meaning says (R25, R113). -/
def cmdWrite (w : Word) (s : State) : Host.Outcome State Fault Refusal :=
  match decode w with
  | .ok i => exec i s
  | .error _ => .next s.refuseIllegal

/-- A host write of `v` to a register (R24, R25, R27, R32, R33, R38, R39). -/
def regWrite (r : Reg) (v : Word) (s : State) : Host.Outcome State Fault Refusal :=
  match r with
  | .cmd => cmdWrite v s
  | .status => .next { s with status := s.status.writeOneToClear v }
  | .wbuf0 => .next { s with wbuf0 := v }
  | .wbuf1 => .next { s with wbuf1 := v }
  | .wbuf2 => .next { s with wbuf2 := v }
  | .wbuf3 => .next { s with wbuf3 := v }
  | .pwtTimeout => .next { s with pwtTimeout := v }
  | .rdata | .pwtStart | .pwtEnd | .pwtDuration | .ticks | .reserved => .next s

/-- The value of a read reaches the host. -/
def State.returnRead (s : State) (v : Word) : State :=
  { s with host := { s.host with reads := s.host.reads ++ [v] } }

/-- The register an access of `n` bytes at an offset reaches: an aligned 32-bit one inside the window, or
none (R71, R72, U3; outside the window DEDUCED, log entry 16). -/
def accessReg (off n : Nat) : Option Reg := if n = 4 then regAt off else none

/-- A host write of `n` bytes at an offset of the window (R71, R72). -/
def hostWrite (off n : Nat) (v : Word) (s : State) : Host.Outcome State Fault Refusal :=
  match accessReg off n with
  | some r => regWrite r v s
  | none => .refused .hostAccessOutsideContract

/-- A host read of `n` bytes at an offset of the window: the value goes to the host and nothing else
changes (R71, R72, R76). -/
def hostRead (off n : Nat) (s : State) : Host.Outcome State Fault Refusal :=
  match accessReg off n with
  | some r => .next (s.returnRead (s.regValue r))
  | none => .refused .hostAccessOutsideContract

/-- The offset of a host address from BASE, if it is not below it (R23, R71). -/
def Params.offset (p : Params) (addr : Nat) : Option Nat :=
  if p.base ≤ addr then some (addr - p.base) else none

/-- `MemRead(addr, n)` (R71). -/
def memRead (addr n : Nat) (s : State) : Host.Outcome State Fault Refusal :=
  match Params.offset s.par addr with
  | some off => hostRead off n s
  | none => .refused .hostAccessOutsideContract

/-- `MemWrite(addr, n, v)` (R71). -/
def memWrite (addr n : Nat) (v : Word) (s : State) : Host.Outcome State Fault Refusal :=
  match Params.offset s.par addr with
  | some off => hostWrite off n v s
  | none => .refused .hostAccessOutsideContract

end Sys2Proof.Machine
end

