-- ==== Sys2Proof/Machine/HostReference.lean ====
section
/-! DEFINITION. The host software reference: the driver's constants, the raw-sample decode, the scaling,
and the driver calls as sequences of host accesses (48_host_reference.md). It acts on the block through
the register window alone (R200). -/

namespace Sys2Proof.Machine

/-! ## Constants (R201, R202) -/

/-- `DEV_IMU`. -/
def devImu : DevAddr := 0x6A#7

/-- `ID_EXPECTED`. -/
def idExpected : Byte := 0x69#8

/-- `LINEAR_ACCEL_SCALE` = 0.061. -/
def linearAccelScale : Binary64 := roundRatio false 61 1000

/-- `ANGULAR_RATE_SCALE` = 4.375. -/
def angularRateScale : Binary64 := roundRatio false 4375 1000

/-- `STANDARD_GRAVITY` = 9.80665. -/
def standardGravity : Binary64 := roundRatio false 980665 100000

/-- `DEG_TO_RAD` = 0.017453293. -/
def degToRad : Binary64 := roundRatio false 17453293 1000000000

/-- `SPEED_OF_SOUND` = 343.0. -/
def speedOfSound : Binary64 := roundRatio false 343 1

/-! ## Decode and scaling (R210 to R214) -/

/-- `decode16(h, l) = int16((h << 8) | l)` (R210). -/
def decode16 (h l : Byte) : Int := (h ++ l).toInt

/-- `((raw * s) * c) / 1000.0`, left to right in binary64 (R213). -/
def scaleRaw (raw : Int) (s c : Binary64) : Binary64 :=
  f64Div (f64Mul (f64Mul (f64OfInt raw) s) c) (f64OfInt 1000)

/-- `angularRate(raw)` in rad/s (R211). -/
def angularRate (raw : Int) : Binary64 := scaleRaw raw angularRateScale degToRad

/-- `linearAccel(raw)` in m/s² (R212). -/
def linearAccel (raw : Int) : Binary64 := scaleRaw raw linearAccelScale standardGravity

/-- `ticks / TICKS_PER_SECOND * SPEED_OF_SOUND / 2.0` in metres (R214). -/
def distanceOf (ticks : Word) (ticksPerSecond : Nat) : Binary64 :=
  f64Div (f64Mul (f64Div (f64OfInt ticks.toNat) (f64OfInt ticksPerSecond)) speedOfSound) (f64OfInt 2)

/-! ## The driver calls as command sequences (R205 to R209, R214) -/

/-- The commands a call issues, in order. -/
def callCommands : DriverCall → List Instr
  | .construct => []
  | .identify => [.readReg devImu 0x0F#8]
  | .enable => [.writeReg devImu 0x10#8 0xA0#8, .writeReg devImu 0x11#8 0x80#8]
  | .readAngularRateZ => [.readReg devImu 0x27#8, .readReg devImu 0x26#8]
  | .readAccelerationXY =>
    [.readReg devImu 0x29#8, .readReg devImu 0x28#8, .readReg devImu 0x2B#8, .readReg devImu 0x2A#8]
  | .readStatus => [.readReg devImu 0x1E#8]
  | .measure => [.pulseMeasure]

/-- The driver states a call requires (R205 to R209). -/
def callAllowed : DriverCall → DriverState → Bool
  | .enable, d => d != .uninitialized
  | .readAngularRateZ, d => d == .enabled
  | .readAccelerationXY, d => d == .enabled
  | .construct, _ => true
  | .identify, _ => true
  | .readStatus, _ => true
  | .measure, _ => true

/-- The BUSY bit EXEC_BT or EXEC_PWT waits for, as a mask of STATUS (R117). -/
def busyMask : BlockUnit → Word
  | .bt => 0x00000001#32
  | .pwt => 0x00000100#32

/-- The register a call reads after a command that ended without error (R205 to R209, R214). -/
def resultReg : Instr → Option Reg
  | .readReg _ _ => some .rdata
  | .writeReg _ _ _ => none
  | .writeBlock _ _ => none
  | .pulseMeasure => some .pwtDuration

/-- `kind(BT_ERRCODE)` (R203); a code that is never produced is read as any kind (U14). -/
def busErrorOf (code : BitVec 2) : BusErrorKind :=
  if code = 0b01#2 then .noAck else if code = 0b10#2 then .timeout else Config.freeBusError code

/-- The error a STATUS value `v` reports for a unit, if any (R203). -/
def statusError (u : BlockUnit) (v : Word) : Option CallResult :=
  match u with
  | .bt => if v.getLsbD 2 then some (.bus (busErrorOf (v.extractLsb' 3 2))) else none
  | .pwt => if v.getLsbD 10 then some .echoTimeout else none

/-- Bits [7:0] of the `k`-th result word (R207: `h <- RDATA[7:0]`). -/
def gotByte (got : List Word) (k : Nat) : Byte := (got.getD k 0#32).setWidth 8

/-- The driver state after a call that ran all its commands without a bus error (R204 to R206). -/
def stateAfter (call : DriverCall) (got : List Word) (d : DriverState) : DriverState :=
  match call with
  | .construct => .uninitialized
  | .identify => if gotByte got 0 = idExpected ∧ d = .uninitialized then .verified else d
  | .enable => .enabled
  | .readAngularRateZ => d
  | .readAccelerationXY => d
  | .readStatus => d
  | .measure => d

/-- What a call that ran all its commands without an error returns (R205 to R209, R214). -/
def resultAfter (call : DriverCall) (got : List Word) (par : Params) : CallResult :=
  match call with
  | .construct => .ok
  | .identify => if gotByte got 0 = idExpected then .ok else .identityMismatch
  | .enable => .ok
  | .readAngularRateZ => .angularRate (angularRate (decode16 (gotByte got 0) (gotByte got 1)))
  | .readAccelerationXY =>
    .acceleration (linearAccel (decode16 (gotByte got 0) (gotByte got 1)))
      (linearAccel (decode16 (gotByte got 2) (gotByte got 3)))
  | .readStatus => .statusByte (gotByte got 0)
  | .measure => .distance (distanceOf (got.getD 0 0#32) par.ticksPerSecond)

/-! ## Running a call, one host access a step -/

/-- The driver call under way becomes `f`. -/
def State.setCall (s : State) (f : Option CallFrame) : State := { s with host := { s.host with call := f } }

/-- A call returns a result, with the driver in state `d`; no call is under way. -/
def State.callReturn (s : State) (d : DriverState) (r : CallResult) : State :=
  { s with host := { s.host with call := none, driver := d, results := s.host.results ++ [r] } }

/-- The call `c` goes on with the commands `todo`, or returns where there is none left (R215). -/
def State.callNext (s : State) (c : DriverCall) (todo : List Instr) (got : List Word) : State :=
  match todo with
  | [] => s.callReturn (stateAfter c got s.host.driver) (resultAfter c got s.par)
  | i :: rest => s.setCall (some { call := c, todo := i :: rest, got := got, phase := .issue })

/-- A driver call starts, in a driver state that allows it; otherwise the host program is refused, and no
command is issued (R216). -/
def callStart (c : DriverCall) (s : State) : Host.Outcome State Fault Refusal :=
  if callAllowed c s.host.driver then .next (s.callNext c (callCommands c) [])
  else .refused .driverCallInWrongState

/-- `EXEC_...`'s write of the command word. A driver's command for a busy unit is a host program bug and
the program is refused (R203, D35; DESIGN CHOICE, log entry 13). -/
def frameIssue (f : CallFrame) (i : Instr) (s : State) : Host.Outcome State Fault Refusal :=
  if s.busy i.unit then .refused .driverCommandWhileBusy
  else cmdWrite (encode i) (s.setCall (some { f with phase := .poll }))

/-- One read of `WAIT 0x04, <busy mask>, 0` (R117). -/
def framePoll (f : CallFrame) (i : Instr) (s : State) : State :=
  let v := s.regValue .status
  let phase := if v &&& busyMask i.unit = 0#32 then CallPhase.status else CallPhase.poll
  (s.returnRead v).setCall (some { f with phase := phase })

/-- `R32 0x04 -> s`: on an error the call returns it at once and issues nothing more, with the driver
state unchanged (R205 to R209, R214, R215). -/
def frameStatus (f : CallFrame) (i : Instr) (rest : List Instr) (s : State) : State :=
  let v := s.regValue .status
  let s := s.returnRead v
  match statusError i.unit v with
  | some e => s.callReturn s.host.driver e
  | none =>
    match resultReg i with
    | some _ => s.setCall (some { f with phase := .data })
    | none => s.callNext f.call rest f.got

/-- The read of the command's result register. -/
def frameData (f : CallFrame) (i : Instr) (rest : List Instr) (s : State) : State :=
  match resultReg i with
  | some r => (s.returnRead (s.regValue r)).callNext f.call rest (f.got ++ [s.regValue r])
  | none => s.callNext f.call rest f.got

/-- The next host access of the driver call under way. -/
def frameStep (f : CallFrame) (s : State) : Host.Outcome State Fault Refusal :=
  match f.todo with
  | [] => .next (s.callNext f.call [] f.got)
  | i :: rest =>
    match f.phase with
    | .issue => frameIssue f i s
    | .poll => .next (framePoll f i s)
    | .status => .next (frameStatus f i rest s)
    | .data => .next (frameData f i rest s)

end Sys2Proof.Machine
end

