-- ==== Sys2Proof/Machine/HostProgram.lean ====
section
/-! DEFINITION. The host as an agent: one operation of its program a step, the host macros, and what each
event does (00_scope.md R9, 20_memory.md R75, R80, 30_encoding.md R116, R117). -/

namespace Sys2Proof.Machine

/-! ## Host macros (R117) -/

/-- `EXEC_BT <cmd>`. -/
def execBtMacro (c : Asm) : List HostOp := [.cmd c, .wait 0x04 0x00000001#32 0#32]

/-- `EXEC_PWT`. -/
def execPwtMacro : List HostOp := [.cmd .pulseMeasure, .wait 0x04 0x00000100#32 0#32]

/-- `CLEAR_STATUS`: every W1C bit. -/
def clearStatusMacro : List HostOp := [.w32 0x04 0x00030606#32]

/-- One word of `LOAD_WBUF`: bytes `4k` to `4k+3`, missing ones 0. -/
def loadWord (bytes : List Byte) (k : Nat) : Word :=
  placed (bytes.getD (4 * k) 0#8) 0 ||| placed (bytes.getD (4 * k + 1) 0#8) 8
    ||| placed (bytes.getD (4 * k + 2) 0#8) 16 ||| placed (bytes.getD (4 * k + 3) 0#8) 24

/-- `LOAD_WBUF b0,...,b(n-1)`, for k = 0 .. ceil(n/4)-1. -/
def loadWbufMacro (bytes : List Byte) : List HostOp :=
  (List.range ((bytes.length + 3) / 4)).map fun k => .w32 (0x0C + 4 * k) (loadWord bytes k)

/-! ## One operation of the host's program (R116) -/

/-- The operation stays in front of the host's program. -/
def State.putBack (s : State) (op : HostOp) : State :=
  { s with host := { s.host with program := op :: s.host.program } }

/-- One read of `WAIT <off>, <mask>, <value>`; the operation stays in front until the read matches. -/
def waitStep (off : Nat) (mask value : Word) (s : State) : Host.Outcome State Fault Refusal :=
  match regAt off with
  | some r =>
    let v := s.regValue r
    let s := s.returnRead v
    .next (if v &&& mask = value then s else s.putBack (.wait off mask value))
  | none => .refused .hostAccessOutsideContract

/-- The host performs `op`, already taken from its program. -/
def runOp (op : HostOp) (s : State) : Host.Outcome State Fault Refusal :=
  match op with
  | .w32 off v => hostWrite off 4 v s
  | .r32 off => hostRead off 4 s
  | .wait off mask value => waitStep off mask value s
  | .cmd c =>
    match c.assemble with
    | some w => hostWrite 0x00 4 w s
    | none => .refused .assemblerOperandRange
  | .memRead addr n => memRead addr n s
  | .memWrite addr n v => memWrite addr n v s
  | .call c => callStart c s

/-- The host's next operation and the state without it. Where its program says none, the host may do
anything: the operation is a free value (R87). -/
def State.takeOp (s : State) : HostOp × State :=
  match s.host.program with
  | op :: rest => (op, { s with host := { s.host with program := rest } })
  | [] => (Config.freeHostOp s.draws, { s with draws := s.draws + 1 })

/-- The host's turn: one access of the driver call under way, or else the next operation of its program
(R75, R200). -/
def hostTurn (s : State) : Host.Outcome State Fault Refusal :=
  match s.host.call with
  | some f => frameStep f s
  | none => runOp s.takeOp.1 s.takeOp.2

/-! ## Events -/

/-- The next event and the state without it. Where none is queued, agents interleave freely: the event is
a free value (R9, R80). -/
def State.takeEvent (s : State) : Event × State :=
  match s.events with
  | e :: rest => (e, { s with events := rest })
  | [] => (Config.freeEvent s.draws, { s with draws := s.draws + 1 })

/-- What an event does (R9). -/
def runEvent (e : Event) (s : State) : Host.Outcome State Fault Refusal :=
  match e with
  | .host => hostTurn s
  | .answer d => .next (s.btAnswer d)
  | .lateAnswer _ => .next s.discardLate
  | .tick echo => .next (s.tick echo)
  | .reset => .next s.blockReset

/-- `s` with a host write of the command word `w` to CMD as its next event: the host's turn comes next, no
driver call is under way, and the next operation of its program is the write. -/
def State.placeCommand (s : State) (w : Word) : State :=
  { s with
    events := .host :: s.events
    host := { s.host with call := none, program := .w32 0x00 w :: s.host.program } }

end Sys2Proof.Machine
end

