-- ==== Sys2Proof/Machine/Step.lean ====
section
/-! DEFINITION. One step: the next event of the total order of R80, and what it does. -/

namespace Sys2Proof.Machine

/-- One atomic event of one agent (R9, R78, R80). -/
def step (s : State) : Host.Outcome State Fault Refusal := runEvent s.takeEvent.1 s.takeEvent.2

/-- `s` with the command word `w` where the next step takes its instruction from: the host's turn comes
next, and the next operation of its program writes the word to CMD (R22, R25). -/
def State.withFetchWord (s : State) (_nbits w : Nat) : State := s.placeCommand (BitVec.ofNat 32 w)

end Sys2Proof.Machine
end

