-- ==== Sys2Proof/Safety.lean ====
section
/-! DEFINITION. What the statements speak of: the invariants of 10_state.md R49 and of the two sequencers,
the run of several ticks, and the register write a step makes. -/

namespace Sys2Proof.Safety

open Sys2Proof.Machine

/-! ## Invariants -/

/-- The invariants of R49, in its order (R40, R41, R42, R180). -/
abbrev Consistent (s : State) : Prop :=
  (s.status.btBusy = true ↔ s.bt.state ≠ .idle) ∧
  (s.status.pwtBusy = true ↔ s.pwt.state ≠ .idle) ∧
  (s.bt.held = true ↔ s.bt.state = .data) ∧
  (s.trigOut = true → s.pwt.state = .trigHigh) ∧
  (s.status.btErrCode ≠ 0b00#2 ↔ s.status.btErrStep ≠ 0b00#2) ∧
  (s.status.btErrCode ≠ 0b00#2 → s.status.btBusy = false) ∧
  (s.status.pwtErrPhase ≠ 0b00#2 → s.status.pwtBusy = false)

/-- A write to `dev` of 1 to 16 bytes with a stop. -/
def isStopWrite (dev : DevAddr) : Option Primitive → Bool
  | some (.write d bytes hold) =>
    decide (d = dev ∧ hold = false ∧ 1 ≤ bytes.length ∧ bytes.length ≤ 16)
  | some (.read _ _ _) => false
  | none => false

/-- The primitive outstanding at the transport is the one the BT's state waits for: none in IDLE, exactly
one in ADDR, DATA and WRITE (R40, R83, R134 to R136). -/
abbrev OutstandingFits (s : State) : Prop :=
  (s.bt.state = .idle → s.outstanding = none) ∧
  (s.bt.state = .addr → s.outstanding = some (addressPhase s.bt.dev s.bt.sub)) ∧
  (s.bt.state = .data → s.outstanding = some (dataPhase s.bt.dev)) ∧
  (s.bt.state = .write → isStopWrite s.bt.dev s.outstanding = true)

/-- The transfer is a one-byte write to `dev` with the bus held, answered Ok. -/
def isHeldOkWrite (dev : DevAddr) (x : Transfer) : Bool :=
  match x.prim, x.answer with
  | .write d [_] true, .ok => d == dev
  | _, _ => false

/-- Every read of a bus trace is of one byte with a stop and stands directly after a held one-byte write to
the same device, answered Ok; `prev` is the transfer before the list (R84, R138, R139). -/
def readsFollowHeldWrites : Option Transfer → List Transfer → Bool
  | _, [] => true
  | prev, x :: rest =>
    (match x.prim with
      | .read dev n hold => n == 1 && !hold && prev.any (isHeldOkWrite dev)
      | .write _ _ _ => true)
    && readsFollowHeldWrites (some x) rest

/-- The bus trace keeps the phase order of READ_REG, and in DATA its last transfer is the operation's own
address phase, answered Ok (R41, R84, R138). -/
abbrev TraceFits (s : State) : Prop :=
  readsFollowHeldWrites none s.trace = true ∧
  (s.bt.state = .data →
    s.trace.getLast? = some ⟨addressPhase s.bt.dev s.bt.sub, .ok⟩)

/-- The result registers hold 0, as an acceptance leaves them (R172, R179). -/
abbrev ResultsZero (s : State) : Prop := s.pwtStart = 0#32 ∧ s.pwtEnd = 0#32 ∧ s.pwtDuration = 0#32

/-- After a success the duration is the difference of the timestamps, from 1 to the latched budget
(R176, R177); after an EchoTimeout PWT_END and PWT_DURATION are 0 (R174, R175). -/
abbrev ResultFits (s : State) : Prop :=
  (s.status.pwtErrPhase = 0b00#2 →
    s.pwtDuration = s.pwtEnd - s.pwtStart ∧
    1 ≤ s.pwtDuration.toNat ∧ s.pwtDuration.toNat ≤ s.pwt.timeout.toNat) ∧
  (s.status.pwtErrPhase ≠ 0b00#2 → s.pwtEnd = 0#32 ∧ s.pwtDuration = 0#32)

/-- The result registers, the remaining ticks and the counter agree with the PWT's state: before the rise
all results are 0, and in the fall wait the counter is as many ticks past PWT_START as the budget has lost
(R172, R174 to R177, R179). -/
abbrev MeasurementFits (s : State) : Prop :=
  (s.pwt.state = .idle → s.status.pwtDone = true → ResultFits s) ∧
  (s.pwt.state = .trigLow → ResultsZero s ∧ s.pwt.r ≠ 0#32) ∧
  (s.pwt.state = .trigHigh → ResultsZero s ∧ s.pwt.r ≠ 0#32) ∧
  (s.pwt.state = .waitRise → ResultsZero s ∧ s.pwt.r.toNat ≤ s.pwt.timeout.toNat) ∧
  (s.pwt.state = .waitFall →
    s.pwtEnd = 0#32 ∧ s.pwtDuration = 0#32 ∧ s.pwt.r.toNat ≤ s.pwt.timeout.toNat ∧
    s.ticks = s.pwtStart + 1#32 + (s.pwt.timeout - s.pwt.r))

/-- RDATA holds a zero-extended byte (R31). -/
abbrev RdataIsByte (s : State) : Prop := s.rdata.toNat < 256

/-! ## What stays the same -/

/-- Everything but the host, the queued events and the count of free values is the same: the block, the
counter, the transport's end and the parameters. -/
def SameBlock (s t : State) : Prop :=
  t = { s with host := t.host, events := t.events, draws := t.draws }

/-- The host, the parameters, the queued events and the count of free values are the same. -/
abbrev SameEnvironment (s t : State) : Prop :=
  t.host = s.host ∧ t.par = s.par ∧ t.events = s.events ∧ t.draws = s.draws

/-- The host's data registers are the same: WBUF0 to WBUF3 and PWT_TIMEOUT. -/
abbrev SameOperands (s t : State) : Prop :=
  t.wbuf0 = s.wbuf0 ∧ t.wbuf1 = s.wbuf1 ∧ t.wbuf2 = s.wbuf2 ∧ t.wbuf3 = s.wbuf3 ∧
  t.pwtTimeout = s.pwtTimeout

/-- The pulse-width timer, its result registers, its output and the tick counter are the same; its STATUS
fields are STATUS bits 12 to 8. -/
abbrev SameTimer (s t : State) : Prop :=
  t.pwt = s.pwt ∧ t.pwtStart = s.pwtStart ∧ t.pwtEnd = s.pwtEnd ∧ t.pwtDuration = s.pwtDuration ∧
  t.trigOut = s.trigOut ∧ t.ticks = s.ticks

/-- The bus transactor, RDATA and the transport's end are the same; its STATUS fields are STATUS bits 6 to
0. -/
abbrev SameTransactor (s t : State) : Prop :=
  t.bt = s.bt ∧ t.rdata = s.rdata ∧ t.outstanding = s.outstanding ∧ t.orphans = s.orphans ∧
  t.trace = s.trace

/-! ## Several ticks -/

/-- The state after the ticks with the echo levels of the list, first one first, nothing else happening in
between (R171). -/
def runTicks (s : State) (echo : List Level) : State := echo.foldl State.tick s

/-! ## The register write of a step -/

/-- The offset and value the host's turn writes to a register, if its access is a 32-bit write at or above
BASE (R71, R116, R117). -/
def turnWrite (s : State) : Option (Nat × Word) :=
  match s.host.call with
  | some f =>
    match f.todo, f.phase with
    | i :: _, .issue => if s.busy i.unit then none else some (0x00, encode i)
    | _, _ => none
  | none =>
    match s.takeOp.1 with
    | .w32 off v => some (off, v)
    | .r32 _ => none
    | .wait _ _ _ => none
    | .cmd c => c.assemble.map fun w => (0x00, w)
    | .memRead _ _ => none
    | .memWrite addr n v =>
      if n = 4 then (Params.offset s.par addr).map fun off => (off, v) else none
    | .call _ => none

/-- The offset and value the step at `s` writes to a register for the host, if it does. -/
def stepWrite (s : State) : Option (Nat × Word) :=
  match s.takeEvent.1 with
  | .host => turnWrite s.takeEvent.2
  | .answer _ => none
  | .lateAnswer _ => none
  | .tick _ => none
  | .reset => none

end Sys2Proof.Safety
end

