-- ==== Sys2Proof/Certificates/Slice0/Obligations.lean ====
section
/-! DEFINITION. The statements for the provers, from the numbered rules of spec/. -/

open Sys2Proof Sys2Proof.Machine Sys2Proof.Safety

/-! ## The command word (30_encoding.md) -/

/-- Decoding the word of a well-formed command gives the command back, with every operand (R102 to R106,
R112). -/
def Obligations.CommandsDecodeToThemselves : Prop :=
  ∀ i : Instr, i.WellFormed → decode (encode i) = .ok i

/-- A word that decodes is the word of the command it decodes to, and that command is well formed: the
decoder drops no bit (R109, R112). -/
def Obligations.DecodedWordsEncodeBack : Prop :=
  ∀ (w : Word) (i : Instr), decode w = .ok i → i.WellFormed ∧ encode i = w

/-- R112: the decode function, read off the masks and field positions of the formats, and the opcode table:
every word matches at most one row, and exactly one if and only if it decodes. -/
def Obligations.DecodeFollowsTheRule : Prop :=
  (∀ w : Word,
    (w &&& 0xFFF0080F#32 = 0x1#32 →
      decode w = .ok (.readReg ((w >>> 4).setWidth 7) ((w >>> 12).setWidth 8))) ∧
    (w &&& 0xF000080F#32 = 0x2#32 →
      decode w =
        .ok (.writeReg ((w >>> 4).setWidth 7) ((w >>> 12).setWidth 8) ((w >>> 20).setWidth 8))) ∧
    (w &&& 0xFFFE080F#32 = 0x3#32 → 1 ≤ (w >>> 12).toNat % 32 → (w >>> 12).toNat % 32 ≤ 16 →
      decode w = .ok (.writeBlock ((w >>> 4).setWidth 7) ((w >>> 12).setWidth 5))) ∧
    (w = 0x8#32 → decode w = .ok .pulseMeasure) ∧
    (w &&& 0xFFF0080F#32 ≠ 0x1#32 → w &&& 0xF000080F#32 ≠ 0x2#32 →
      ¬ (w &&& 0xFFFE080F#32 = 0x3#32 ∧ 1 ≤ (w >>> 12).toNat % 32 ∧ (w >>> 12).toNat % 32 ≤ 16) →
      w ≠ 0x8#32 → ∃ r, decode w = .error r)) ∧
  (∀ w : Word,
    (opcodeTable.filter fun r => r.accepts w).length ≤ 1 ∧
    ((opcodeTable.filter fun r => r.accepts w).length = 1 ↔ ∃ i, decode w = .ok i))

/-- R108 and R109: which words are illegal, and that an illegal word written to CMD sets CMD_ILLEGAL and has
no other effect, whatever the units do. -/
def Obligations.IllegalWordsOnlySetCmdIllegal : Prop :=
  (∀ w : Word, (∃ r, decode w = .error r) ↔
    ((w &&& 0xF#32 ≠ 0x1#32 ∧ w &&& 0xF#32 ≠ 0x2#32 ∧ w &&& 0xF#32 ≠ 0x3#32 ∧ w &&& 0xF#32 ≠ 0x8#32) ∨
     (w &&& 0xF#32 = 0x1#32 ∧ w &&& 0xFFF00800#32 ≠ 0#32) ∨
     (w &&& 0xF#32 = 0x2#32 ∧ w &&& 0xF0000800#32 ≠ 0#32) ∨
     (w &&& 0xF#32 = 0x3#32 ∧ w &&& 0xFFFE0800#32 ≠ 0#32) ∨
     (w &&& 0xF#32 = 0x8#32 ∧ w &&& 0xFFFFFFF0#32 ≠ 0#32) ∨
     (w &&& 0xF#32 = 0x3#32 ∧ ((w >>> 12).toNat % 32 = 0 ∨ 16 < (w >>> 12).toNat % 32)))) ∧
  (∃ r, decode 0x00000000#32 = .error r) ∧
  (∀ (s : State) (w : Word) (r : IllegalWord), decode w = .error r →
    hostWrite 0x00 4 w s = .next { s with status := { s.status with cmdIllegal := true } })

/-- R115: the word of an assembler line, as a number, and that a line with an operand out of range gives
none. -/
def Obligations.AssembledWordsFollowTheFormats : Prop :=
  (∀ dev sub : Nat,
    (Asm.readReg dev sub).assemble =
      if dev ≤ 0x7F ∧ sub ≤ 0xFF then some (BitVec.ofNat 32 (1 + 2 ^ 4 * dev + 2 ^ 12 * sub))
      else none) ∧
  (∀ dev sub val : Nat,
    (Asm.writeReg dev sub val).assemble =
      if dev ≤ 0x7F ∧ sub ≤ 0xFF ∧ val ≤ 0xFF then
        some (BitVec.ofNat 32 (2 + 2 ^ 4 * dev + 2 ^ 12 * sub + 2 ^ 20 * val))
      else none) ∧
  (∀ dev len : Nat,
    (Asm.writeBlock dev len).assemble =
      if dev ≤ 0x7F ∧ 1 ≤ len ∧ len ≤ 16 then some (BitVec.ofNat 32 (3 + 2 ^ 4 * dev + 2 ^ 12 * len))
      else none) ∧
  Asm.pulseMeasure.assemble = some 0x00000008#32

/-- Words of 95_test_vectors.md L2.1 decode as written there. -/
def Obligations.SpecWordsDecodeAsWritten : Prop :=
  decode 0x0000F6A1#32 = .ok (.readReg 0x6A#7 0x0F#8) ∧
  decode 0x0A0106A2#32 = .ok (.writeReg 0x6A#7 0x10#8 0xA0#8) ∧
  decode 0x000106A3#32 = .ok (.writeBlock 0x6A#7 16#5) ∧
  decode 0x00000008#32 = .ok .pulseMeasure ∧
  decode 0x000F06A3#32 = .error .reservedBit

/-! ## Steps -/

/-- The host's turn that writes a word to CMD runs the command the word decodes to, on the state with the
event and the operation taken off their queues and nothing else changed; so does the assembled form
(R25, R113, R116). -/
def Obligations.StepRunsTheDecodedCommand : Prop :=
  ∀ (s : State) (es : List Event) (ops : List HostOp) (w : Word) (i : Instr),
    s.events = .host :: es → s.host.call = none → decode w = .ok i →
    (s.host.program = .w32 0x00 w :: ops →
      step s = exec i { s with events := es, host := { s.host with program := ops } }) ∧
    (∀ c : Asm, c.assemble = some w → s.host.program = .cmd c :: ops →
      step s = exec i { s with events := es, host := { s.host with program := ops } }) ∧
    (s.host.program = .memWrite s.par.base 4 w :: ops →
      step s = exec i { s with events := es, host := { s.host with program := ops } })

/-- A queued event of the transport, the tick source or the platform is what the next step does, on the
state with the event taken off its queue (R9, R80, R133, R171, R260). -/
def Obligations.StepAppliesTheQueuedEvent : Prop :=
  ∀ (s : State) (es : List Event),
    (∀ d, s.events = .answer d :: es → step s = .next (State.btAnswer { s with events := es } d)) ∧
    (∀ e, s.events = .tick e :: es → step s = .next (State.tick { s with events := es } e)) ∧
    (s.events = .reset :: es → step s = .next (State.blockReset { s with events := es }))

/-- The effect of a host write to CMD is complete within the write: a legal word leaves its unit busy, with
CMD_REJECT set where it was busy already, and an illegal one leaves CMD_ILLEGAL set. An inference the spec
marks as its own: "Acceptance is part of the host's write to CMD." (20_memory.md section 4). -/
def Obligations.AcceptanceIsVisibleAtOnce : Prop :=
  ∀ (s : State) (w : Word), ∃ t, hostWrite 0x00 4 w s = .next t ∧
    (∀ i, decode w = .ok i → t.busy i.unit = true ∧ (s.busy i.unit = true → t.status.cmdReject = true)) ∧
    (∀ r, decode w = .error r → t.status.cmdIllegal = true)

/-! ## Acceptance (R113, R131, R172) -/

/-- READ_REG written while the BT is idle is accepted: the operands are latched, the address phase is
outstanding, STATUS bits 6 to 0 become BT_BUSY alone, and nothing else changes (R113, R131, R134). -/
def Obligations.ReadRegIsAcceptedWhenIdle : Prop :=
  ∀ (s : State) (dev : DevAddr) (sub : Byte), s.status.btBusy = false →
    ∃ t, exec (.readReg dev sub) s = .next t ∧
      t.bt = { s.bt with state := .addr, dev := dev, sub := sub } ∧
      t.outstanding = some (.write dev [sub] true) ∧
      t.status.word = s.status.word &&& ~~~0x0000007F#32 ||| 0x00000001#32 ∧
      t.rdata = s.rdata ∧ t.orphans = s.orphans ∧ t.trace = s.trace ∧
      SameOperands s t ∧ SameTimer s t ∧ SameEnvironment s t

/-- WRITE_REG written while the BT is idle is accepted (R113, R131, R135). -/
def Obligations.WriteRegIsAcceptedWhenIdle : Prop :=
  ∀ (s : State) (dev : DevAddr) (sub val : Byte), s.status.btBusy = false →
    ∃ t, exec (.writeReg dev sub val) s = .next t ∧
      t.bt = { s.bt with state := .write, dev := dev, sub := sub, val := val } ∧
      t.outstanding = some (.write dev [sub, val] false) ∧
      t.status.word = s.status.word &&& ~~~0x0000007F#32 ||| 0x00000001#32 ∧
      t.rdata = s.rdata ∧ t.orphans = s.orphans ∧ t.trace = s.trace ∧
      SameOperands s t ∧ SameTimer s t ∧ SameEnvironment s t

/-- WRITE_BLOCK of 1 to 16 bytes written while the BT is idle is accepted: the buffer is copied, and the
write of its first `len` bytes, byte `i` being bits `[8*(i mod 4)+7 : 8*(i mod 4)]` of WBUF(i div 4), is
outstanding (R32, R113, R131, R136). -/
def Obligations.WriteBlockIsAcceptedWhenIdle : Prop :=
  ∀ (s : State) (dev : DevAddr) (len : BitVec 5), s.status.btBusy = false →
    1 ≤ len.toNat → len.toNat ≤ 16 →
    ∃ t bytes, exec (.writeBlock dev len) s = .next t ∧
      t.outstanding = some (.write dev bytes false) ∧
      bytes.length = len.toNat ∧
      (∀ i < len.toNat,
        bytes[i]? =
          some ((([s.wbuf0, s.wbuf1, s.wbuf2, s.wbuf3].getD (i / 4) 0#32) >>> (8 * (i % 4))).setWidth 8)) ∧
      t.bt = { s.bt with state := .write, dev := dev, len := len, buf := s.block } ∧
      t.status.word = s.status.word &&& ~~~0x0000007F#32 ||| 0x00000001#32 ∧
      t.rdata = s.rdata ∧ t.orphans = s.orphans ∧ t.trace = s.trace ∧
      SameOperands s t ∧ SameTimer s t ∧ SameEnvironment s t

/-- The form of WRITE_BLOCK with LEN 0 or above 16 is illegal: CMD_ILLEGAL, and nothing else, even when the
BT is busy (R108, R136, R239). -/
def Obligations.BlockLengthOutOfRangeIsIllegal : Prop :=
  ∀ (s : State) (dev : DevAddr) (len : BitVec 5), len.toNat = 0 ∨ 16 < len.toNat →
    exec (.writeBlock dev len) s = .next { s with status := { s.status with cmdIllegal := true } }

/-- PULSE_MEASURE written while the PWT is idle is accepted: the budget is latched, the results are
cleared, the trigger is low, TRIG_LOW has TRIG_LOW_TICKS to go, STATUS bits 12 to 8 become PWT_BUSY alone,
and nothing else changes (R113, R172, R179). -/
def Obligations.PulseMeasureIsAcceptedWhenIdle : Prop :=
  ∀ s : State, s.status.pwtBusy = false →
    ∃ t, exec .pulseMeasure s = .next t ∧
      t.pwt = { state := .trigLow, r := s.par.trigLow, timeout := s.pwtTimeout } ∧
      t.pwtStart = 0#32 ∧ t.pwtEnd = 0#32 ∧ t.pwtDuration = 0#32 ∧ t.trigOut = false ∧
      t.ticks = s.ticks ∧
      t.status.word = s.status.word &&& ~~~0x00001F00#32 ||| 0x00000100#32 ∧
      SameOperands s t ∧ SameTransactor s t ∧ SameEnvironment s t

/-- R236: a legal command written while its unit is busy sets CMD_REJECT and nothing else; the operation in
flight continues unchanged. -/
def Obligations.BusyUnitRejectsTheCommand : Prop :=
  ∀ (s : State) (w : Word) (i : Instr), decode w = .ok i → s.busy i.unit = true →
    hostWrite 0x00 4 w s = .next { s with status := { s.status with cmdReject := true } } ∧
    exec i s = .next { s with status := { s.status with cmdReject := true } }

/-! ## Bus operations (41_bus_transactor.md) -/

/-- A whole READ_REG from an idle BT: an errored address phase ends it with step 1 and no data phase; an
errored data phase ends it with step 2 and RDATA unchanged; otherwise RDATA is the byte read. The trace
gains exactly the primitives that were answered, and the bus is released (R134, R139, R140). -/
def Obligations.ReadRegRunsItsTwoPhases : Prop :=
  ∀ (s : State) (dev : DevAddr) (sub : Byte) (d₁ d₂ : Draw), s.status.btBusy = false →
    ∃ t, exec (.readReg dev sub) s = .next t ∧
      (∀ k, d₁ = .error k →
        (t.btAnswer d₁).bt.state = .idle ∧ (t.btAnswer d₁).bt.held = false ∧
        (t.btAnswer d₁).outstanding = none ∧ (t.btAnswer d₁).rdata = s.rdata ∧
        (t.btAnswer d₁).trace = s.trace ++ [⟨.write dev [sub] true, .error k⟩] ∧
        (t.btAnswer d₁).status.word =
          s.status.word &&& ~~~0x0000007F#32 ||| (if k = .noAck then 0x0000002E#32 else 0x00000036#32)) ∧
      (∀ b, d₁ = .ok b →
        (t.btAnswer d₁).bt.state = .data ∧ (t.btAnswer d₁).bt.held = true ∧
        (t.btAnswer d₁).outstanding = some (.read dev 1 false) ∧
        (t.btAnswer d₁).status.word = s.status.word &&& ~~~0x0000007F#32 ||| 0x00000001#32 ∧
        ((t.btAnswer d₁).btAnswer d₂).bt.state = .idle ∧
        ((t.btAnswer d₁).btAnswer d₂).bt.held = false ∧
        ((t.btAnswer d₁).btAnswer d₂).outstanding = none ∧
        (∀ k, d₂ = .error k →
          ((t.btAnswer d₁).btAnswer d₂).rdata = s.rdata ∧
          ((t.btAnswer d₁).btAnswer d₂).trace =
            s.trace ++ [⟨.write dev [sub] true, .ok⟩, ⟨.read dev 1 false, .error k⟩] ∧
          ((t.btAnswer d₁).btAnswer d₂).status.word =
            s.status.word &&& ~~~0x0000007F#32 |||
              (if k = .noAck then 0x0000004E#32 else 0x00000056#32)) ∧
        (∀ c, d₂ = .ok c →
          ((t.btAnswer d₁).btAnswer d₂).rdata = c.setWidth 32 ∧
          ((t.btAnswer d₁).btAnswer d₂).trace =
            s.trace ++ [⟨.write dev [sub] true, .ok⟩, ⟨.read dev 1 false, .okData c⟩] ∧
          ((t.btAnswer d₁).btAnswer d₂).status.word =
            s.status.word &&& ~~~0x0000007F#32 ||| 0x00000002#32)) ∧
      SameOperands s ((t.btAnswer d₁).btAnswer d₂) ∧ SameTimer s ((t.btAnswer d₁).btAnswer d₂) ∧
      SameEnvironment s ((t.btAnswer d₁).btAnswer d₂)

/-- A whole WRITE_REG from an idle BT: one two-byte write with a stop, sub-address first, whose answer ends
the operation; RDATA is not touched (R74, R135). -/
def Obligations.WriteRegRunsItsOneWrite : Prop :=
  ∀ (s : State) (dev : DevAddr) (sub val : Byte) (d : Draw), s.status.btBusy = false →
    ∃ t, exec (.writeReg dev sub val) s = .next t ∧
      (t.btAnswer d).bt.state = .idle ∧ (t.btAnswer d).bt.held = s.bt.held ∧
      (t.btAnswer d).outstanding = none ∧ (t.btAnswer d).rdata = s.rdata ∧
      (∀ b, d = .ok b →
        (t.btAnswer d).trace = s.trace ++ [⟨.write dev [sub, val] false, .ok⟩] ∧
        (t.btAnswer d).status.word = s.status.word &&& ~~~0x0000007F#32 ||| 0x00000002#32) ∧
      (∀ k, d = .error k →
        (t.btAnswer d).trace = s.trace ++ [⟨.write dev [sub, val] false, .error k⟩] ∧
        (t.btAnswer d).status.word =
          s.status.word &&& ~~~0x0000007F#32 ||| (if k = .noAck then 0x0000002E#32 else 0x00000036#32)) ∧
      SameOperands s (t.btAnswer d) ∧ SameTimer s (t.btAnswer d) ∧ SameEnvironment s (t.btAnswer d)

/-- A whole WRITE_BLOCK from an idle BT: one write with a stop of the buffer's first `len` bytes, whose
answer ends the operation; RDATA and the WBUF registers are not touched (R74, R136). -/
def Obligations.WriteBlockRunsItsOneWrite : Prop :=
  ∀ (s : State) (dev : DevAddr) (len : BitVec 5) (d : Draw), s.status.btBusy = false →
    1 ≤ len.toNat → len.toNat ≤ 16 →
    ∃ t, exec (.writeBlock dev len) s = .next t ∧
      (t.btAnswer d).bt.state = .idle ∧ (t.btAnswer d).bt.held = s.bt.held ∧
      (t.btAnswer d).outstanding = none ∧ (t.btAnswer d).rdata = s.rdata ∧
      (∀ b, d = .ok b →
        (t.btAnswer d).trace = s.trace ++ [⟨.write dev (s.block.toList.take len.toNat) false, .ok⟩] ∧
        (t.btAnswer d).status.word = s.status.word &&& ~~~0x0000007F#32 ||| 0x00000002#32) ∧
      (∀ k, d = .error k →
        (t.btAnswer d).trace = s.trace ++ [⟨.write dev (s.block.toList.take len.toNat) false, .error k⟩] ∧
        (t.btAnswer d).status.word =
          s.status.word &&& ~~~0x0000007F#32 ||| (if k = .noAck then 0x0000002E#32 else 0x00000036#32)) ∧
      SameOperands s (t.btAnswer d) ∧ SameTimer s (t.btAnswer d) ∧ SameEnvironment s (t.btAnswer d)

/-- WRITE_REG `dev, sub, val` and WRITE_BLOCK `dev, 2` with `WB[0] = sub` and `WB[1] = val` issue the same
primitive and have the same effect on STATUS, from the same state, before and after the answer. An
inference the spec marks as its own (41_bus_transactor.md section 3: "issue the same primitive"). -/
def Obligations.TwoByteBlockEqualsRegisterWrite : Prop :=
  ∀ (s : State) (dev : DevAddr) (sub val : Byte) (d : Draw),
    s.wbuf0.setWidth 8 = sub → (s.wbuf0 >>> 8).setWidth 8 = val → s.status.btBusy = false →
    ∃ t u, exec (.writeReg dev sub val) s = .next t ∧ exec (.writeBlock dev 2#5) s = .next u ∧
      u.outstanding = t.outstanding ∧ u.status = t.status ∧
      (u.btAnswer d).status = (t.btAnswer d).status ∧ (u.btAnswer d).trace = (t.btAnswer d).trace ∧
      (u.btAnswer d).rdata = (t.btAnswer d).rdata

/-- R130: the transitions of `bt.state`. The acceptances lead from IDLE to ADDR or WRITE, the answers lead
on as the table says and report success or the failed step, and in a consistent state no step leaves IDLE
but a host write of a BT command to CMD and no step leaves another state but the transport's answer or a
reset. -/
def Obligations.TransactorTransitionsAreTheTable : Prop :=
  (∀ (s t : State) (i : Instr), i.WellFormed → Consistent s → s.bt.state = .idle → exec i s = .next t →
    t.bt.state =
      match i with
      | .readReg _ _ => .addr
      | .writeReg _ _ _ => .write
      | .writeBlock _ _ => .write
      | .pulseMeasure => .idle) ∧
  (∀ (s : State) (d : Draw),
    (s.btAnswer d).bt.state =
      match s.bt.state, d with
      | .addr, .ok _ => .data
      | .idle, _ => .idle
      | .addr, .error _ => .idle
      | .data, _ => .idle
      | .write, _ => .idle) ∧
  (∀ (s : State) (d : Draw),
    (s.btAnswer d).status =
      match s.bt.state, d with
      | .idle, _ => s.status
      | .addr, .ok _ => s.status
      | .data, .ok _ => { s.status with btBusy := false, btDone := true }
      | .write, .ok _ => { s.status with btBusy := false, btDone := true }
      | st, .error k => { s.status with
          btBusy := false
          btDone := true
          btErr := true
          btErrCode := if k = .noAck then 0b01#2 else 0b10#2
          btErrStep := if st = .data then 0b10#2 else 0b01#2 }) ∧
  (∀ s : State, s.blockReset.bt.state = .idle) ∧
  (∀ s t : State, Consistent s → step s = .next t → t.bt.state ≠ s.bt.state →
    (s.bt.state = .idle →
      s.takeEvent.1 = .host ∧
      ∃ w i, stepWrite s = some (0x00, w) ∧ decode w = .ok i ∧ i.unit = .bt) ∧
    (s.bt.state ≠ .idle → (∃ d, s.takeEvent.1 = .answer d) ∨ s.takeEvent.1 = .reset))

/-- R137: each primitive of an operation is issued at most once, and after an error answer nothing more is.
Every answer ends the operation with nothing outstanding, except the Ok answer of the address phase of a
READ_REG, which issues the data phase; and a step makes a primitive outstanding only where it accepts a BT
command or is that one answer. -/
def Obligations.NoPrimitiveIsRetried : Prop :=
  (∀ (s : State) (d : Draw), Consistent s → s.bt.state ≠ .idle →
    ((s.bt.state = .addr ∧ ∃ b, d = .ok b) →
      (s.btAnswer d).outstanding = some (.read s.bt.dev 1 false) ∧ (s.btAnswer d).bt.state = .data) ∧
    (¬ (s.bt.state = .addr ∧ ∃ b, d = .ok b) →
      (s.btAnswer d).outstanding = none ∧ (s.btAnswer d).bt.state = .idle)) ∧
  (∀ s t : State, Consistent s → step s = .next t → t.outstanding ≠ s.outstanding →
    t.outstanding = none ∨
    (s.bt.state = .idle ∧ t.bt.state ≠ .idle ∧ ∃ w, stepWrite s = some (0x00, w)) ∨
    (s.bt.state = .addr ∧ (∃ b, s.takeEvent.1 = .answer (.ok b)) ∧
      t.outstanding = some (.read s.bt.dev 1 false)))

/-- R143: RDATA changes only by the successful data phase of a READ_REG, which writes the byte read, and by
reset. -/
def Obligations.RdataChangesOnlyByDataPhase : Prop :=
  ∀ s t : State, step s = .next t → t.rdata ≠ s.rdata →
    (s.bt.state = .data ∧ ∃ b, s.takeEvent.1 = .answer (.ok b) ∧ t.rdata = b.setWidth 32) ∨
    (s.takeEvent.1 = .reset ∧ t.rdata = 0#32)

/-! ## The pulse-width timer (42_pulse_timer.md) -/

/-- R171, R172: a tick while no measurement is in flight advances the counter by 1 modulo 2^32 and does
nothing else. -/
def Obligations.IdleTimerTickOnlyCounts : Prop :=
  ∀ (s : State) (e : Level), s.pwt.state = .idle → s.tick e = { s with ticks := s.ticks + 1#32 }

/-- The tick counter changes only by a tick, by exactly 1 modulo 2^32, and at a reset (R45, R171, R249,
R264). -/
def Obligations.CounterAdvancesByOneATick : Prop :=
  (∀ (s : State) (e : Level), (s.tick e).ticks = s.ticks + 1#32) ∧
  (∀ s t : State, step s = .next t → t.ticks ≠ s.ticks →
    (∃ e, s.takeEvent.1 = .tick e) ∨ s.takeEvent.1 = .reset)

/-- The trigger pulse of an accepted PULSE_MEASURE: after `n` ticks, `n` up to TRIG_LOW_TICKS +
TRIG_HIGH_TICKS, the output is high exactly when `n` is at least TRIG_LOW_TICKS and below their sum, and
then the rise wait begins with the whole budget. An inference the spec marks as its own ("The high level
therefore lasts exactly `TRIG_HIGH_TICKS` tick periods.", 42_pulse_timer.md section 3). -/
def Obligations.TriggerPulseLastsItsTicks : Prop :=
  ∀ (s t : State) (echo : List Level),
    s.status.pwtBusy = false → s.par.Legal → exec .pulseMeasure s = .next t →
    echo.length ≤ s.par.trigLow.toNat + s.par.trigHigh.toNat →
    (runTicks t echo).trigOut =
      decide (s.par.trigLow.toNat ≤ echo.length ∧
        echo.length < s.par.trigLow.toNat + s.par.trigHigh.toNat) ∧
    (echo.length = s.par.trigLow.toNat + s.par.trigHigh.toNat →
      (runTicks t echo).pwt.state = .waitRise ∧ (runTicks t echo).pwt.r = s.pwtTimeout)

/-- R174: the rise wait. `s` is about to take the tick `F` that sets TrigOut to 0; the wait then samples at
most `pwt.timeout` ticks. The first that samples high, `F + 1 + k`, becomes PWT_START; if none does, the
tick `F + pwt.timeout + 1` ends the measurement with EchoTimeout, PWT_ERRPHASE = 01, and the result
registers stay 0. -/
def Obligations.RiseWaitCapturesOrTimesOut : Prop :=
  ∀ (s : State) (e₀ : Level), s.pwt.state = .trigHigh → s.pwt.r = 1#32 →
    (s.tick e₀).trigOut = false ∧ (s.tick e₀).pwt.state = .waitRise ∧
    (∀ k < s.pwt.timeout.toNat,
      (runTicks (s.tick e₀) (List.replicate k false)).pwt.state = .waitRise ∧
      (runTicks (s.tick e₀) (List.replicate k false ++ [true])).pwt.state = .waitFall ∧
      (runTicks (s.tick e₀) (List.replicate k false ++ [true])).pwtStart =
        s.ticks + 1#32 + BitVec.ofNat 32 k) ∧
    (∀ e : Level, ResultsZero s →
      (runTicks (s.tick e₀) (List.replicate s.pwt.timeout.toNat false)).pwt.state = .waitRise ∧
      (runTicks (s.tick e₀) (List.replicate s.pwt.timeout.toNat false ++ [e])).pwt.state = .idle ∧
      (runTicks (s.tick e₀) (List.replicate s.pwt.timeout.toNat false ++ [e])).status =
        { s.status with pwtBusy := false, pwtDone := true, pwtErr := true, pwtErrPhase := 0b01#2 } ∧
      ResultsZero (runTicks (s.tick e₀) (List.replicate s.pwt.timeout.toNat false ++ [e])))

/-- R175: the fall wait. `s` is about to take the tick `S` that captures the rise; the wait then samples at
most `pwt.timeout` ticks. The first that samples low, `S + 1 + k`, becomes PWT_END, PWT_DURATION is `k + 1`
and the measurement ends without error; if none does, the tick `S + pwt.timeout + 1` ends it with
EchoTimeout, PWT_ERRPHASE = 10, PWT_START keeps `S`, and PWT_END and PWT_DURATION stay 0. -/
def Obligations.FallWaitCapturesOrTimesOut : Prop :=
  ∀ s : State, s.pwt.state = .waitRise → s.pwt.r ≠ 0#32 →
    (s.tick true).pwtStart = s.ticks ∧ (s.tick true).pwt.state = .waitFall ∧
    (∀ k < s.pwt.timeout.toNat,
      (runTicks (s.tick true) (List.replicate k true)).pwt.state = .waitFall ∧
      (runTicks (s.tick true) (List.replicate k true ++ [false])).pwt.state = .idle ∧
      (runTicks (s.tick true) (List.replicate k true ++ [false])).status =
        { s.status with pwtBusy := false, pwtDone := true } ∧
      (runTicks (s.tick true) (List.replicate k true ++ [false])).pwtStart = s.ticks ∧
      (runTicks (s.tick true) (List.replicate k true ++ [false])).pwtEnd =
        s.ticks + 1#32 + BitVec.ofNat 32 k ∧
      (runTicks (s.tick true) (List.replicate k true ++ [false])).pwtDuration = BitVec.ofNat 32 (k + 1)) ∧
    (∀ e : Level, s.pwtEnd = 0#32 → s.pwtDuration = 0#32 →
      (runTicks (s.tick true) (List.replicate s.pwt.timeout.toNat true)).pwt.state = .waitFall ∧
      (runTicks (s.tick true) (List.replicate s.pwt.timeout.toNat true ++ [e])).pwt.state = .idle ∧
      (runTicks (s.tick true) (List.replicate s.pwt.timeout.toNat true ++ [e])).status =
        { s.status with pwtBusy := false, pwtDone := true, pwtErr := true, pwtErrPhase := 0b10#2 } ∧
      (runTicks (s.tick true) (List.replicate s.pwt.timeout.toNat true ++ [e])).pwtStart = s.ticks ∧
      (runTicks (s.tick true) (List.replicate s.pwt.timeout.toNat true ++ [e])).pwtEnd = 0#32 ∧
      (runTicks (s.tick true) (List.replicate s.pwt.timeout.toNat true ++ [e])).pwtDuration = 0#32)

/-- R241: within one tick the timeout check comes before the sample, so with no ticks remaining a wait times
out whatever the echo. -/
def Obligations.TimeoutCheckPrecedesTheSample : Prop :=
  ∀ (s : State) (e : Level), s.pwt.r = 0#32 →
    (s.pwt.state = .waitRise →
      s.tick e = { s with
        pwt := { s.pwt with state := .idle }
        status := { s.status with
          pwtBusy := false, pwtDone := true, pwtErr := true, pwtErrPhase := 0b01#2 }
        ticks := s.ticks + 1#32 }) ∧
    (s.pwt.state = .waitFall →
      s.tick e = { s with
        pwt := { s.pwt with state := .idle }
        status := { s.status with
          pwtBusy := false, pwtDone := true, pwtErr := true, pwtErrPhase := 0b10#2 }
        ticks := s.ticks + 1#32 })

/-- Every accepted PULSE_MEASURE has ended after TRIG_LOW_TICKS + TRIG_HIGH_TICKS + 2*PWT_TIMEOUT + 1 tick
events, whatever the echo does. An inference the spec marks as its own ("Every accepted PULSE_MEASURE ends
within the bound", 42_pulse_timer.md section 3). -/
def Obligations.MeasurementEndsWithinItsBound : Prop :=
  ∀ (s t : State) (echo : List Level),
    s.status.pwtBusy = false → s.par.Legal → exec .pulseMeasure s = .next t →
    s.par.trigLow.toNat + s.par.trigHigh.toNat + 2 * s.pwtTimeout.toNat + 1 ≤ echo.length →
    (runTicks t echo).status.pwtBusy = false ∧ (runTicks t echo).status.pwtDone = true ∧
    (runTicks t echo).pwt.state = .idle ∧ (runTicks t echo).trigOut = false

/-! ## Registers (10_state.md, 20_memory.md) -/

/-- R27: a host write of `v` to STATUS clears every W1C field whose bit in `v` is 1 and changes nothing
else; and BT_ERRCODE, BT_ERRSTEP and PWT_ERRPHASE change only at their unit's acceptance or completion, or
at a reset. -/
def Obligations.StatusWriteClearsOnlyWrittenOnes : Prop :=
  (∀ (s : State) (v : Word), ∃ t, hostWrite 0x04 4 v s = .next t ∧
    t.status.word = s.status.word &&& ~~~(v &&& 0x00030606#32) ∧ t = { s with status := t.status }) ∧
  (∀ s t : State, Consistent s → step s = .next t →
    (t.status.btErrCode ≠ s.status.btErrCode ∨ t.status.btErrStep ≠ s.status.btErrStep →
      t.status.btBusy ≠ s.status.btBusy ∨ s.takeEvent.1 = .reset) ∧
    (t.status.pwtErrPhase ≠ s.status.pwtErrPhase →
      t.status.pwtBusy ≠ s.status.pwtBusy ∨ s.takeEvent.1 = .reset))

/-- R246: CMD_ILLEGAL and CMD_REJECT, once set, stay 1 through every step but a reset and a host write to
STATUS with the flag's bit 1. -/
def Obligations.CommandPortFlagsAreSticky : Prop :=
  ∀ s t : State, step s = .next t →
    (s.status.cmdIllegal = true → t.status.cmdIllegal = false →
      s.takeEvent.1 = .reset ∨ ∃ v : Word, stepWrite s = some (0x04, v) ∧ v.getLsbD 16 = true) ∧
    (s.status.cmdReject = true → t.status.cmdReject = false →
      s.takeEvent.1 = .reset ∨ ∃ v : Word, stepWrite s = some (0x04, v) ∧ v.getLsbD 17 = true)

/-- R38 and R39: a host write to a reserved offset or to a read-only register changes nothing, and a host
read of CMD or of a reserved offset returns 0 and changes nothing else. -/
def Obligations.ReadOnlyAndReservedIgnoreWrites : Prop :=
  ∀ (s : State) (v : Word),
    (∀ off ∈ [0x08, 0x24, 0x28, 0x2C, 0x30, 0x1C, 0x34, 0x38, 0x3C], hostWrite off 4 v s = .next s) ∧
    (∀ off ∈ [0x00, 0x1C, 0x34, 0x38, 0x3C],
      hostRead off 4 s =
        .next { s with host := { s.host with reads := s.host.reads ++ [0x00000000#32] } })

/-- Every aligned 32-bit read inside the window gives the host a value and has no side effect (R71, R76). -/
def Obligations.HostReadsHaveNoSideEffect : Prop :=
  ∀ (s : State) (off : Nat), off % 4 = 0 → off < 0x40 →
    ∃ v : Word, hostRead off 4 s =
        .next { s with host := { s.host with reads := s.host.reads ++ [v] } } ∧
      (off ∈ [0x00, 0x1C, 0x34, 0x38, 0x3C] → v = 0x00000000#32) ∧
      (off = 0x04 → v = s.status.word) ∧ (off = 0x08 → v = s.rdata) ∧
      (off = 0x0C → v = s.wbuf0) ∧ (off = 0x10 → v = s.wbuf1) ∧
      (off = 0x14 → v = s.wbuf2) ∧ (off = 0x18 → v = s.wbuf3) ∧
      (off = 0x20 → v = s.pwtTimeout) ∧ (off = 0x24 → v = s.pwtStart) ∧
      (off = 0x28 → v = s.pwtEnd) ∧ (off = 0x2C → v = s.pwtDuration) ∧ (off = 0x30 → v = s.ticks)

/-- An access of another width than 4 bytes, at an address that is not a multiple of 4 (R72), or outside the
window (93_implementation_defined.md U3, log entry 16), is a refusal; every other access at a host address
reaches the register at its offset from BASE (R71). -/
def Obligations.AccessOutsideContractIsRefused : Prop :=
  ∀ (s : State) (addr n : Nat) (v : Word), s.par.Legal →
    (n ≠ 4 ∨ addr % 4 ≠ 0 ∨ addr < s.par.base ∨ s.par.base + 0x40 ≤ addr →
      memRead addr n s = .refused .hostAccessOutsideContract ∧
      memWrite addr n v s = .refused .hostAccessOutsideContract) ∧
    (∀ off : Nat, off % 4 = 0 → off < 0x40 → addr = s.par.base + off →
      memRead addr 4 s = hostRead off 4 s ∧ memWrite addr 4 v s = hostWrite off 4 v s ∧
      (∃ t, memRead addr 4 s = .next t) ∧ ∃ t, memWrite addr 4 v s = .next t)

/-- R32: byte `WB[i]` is bits `[8*(i mod 4)+7 : 8*(i mod 4)]` of WBUF(i div 4), a host read of a WBUF
register returns what was last written, only host writes and reset change them, and the BT copies them at
the acceptance of a WRITE_BLOCK and sends `WB[0]` first. -/
def Obligations.BlockBufferHoldsWhatTheHostWrote : Prop :=
  (∀ (s : State) (i : Fin 16),
    s.block[i] =
      (([s.wbuf0, s.wbuf1, s.wbuf2, s.wbuf3].getD (i.val / 4) 0#32) >>> (8 * (i.val % 4))).setWidth 8) ∧
  (∀ (s : State) (v : Word), ∀ off ∈ [0x0C, 0x10, 0x14, 0x18],
    ∃ t, hostWrite off 4 v s = .next t ∧
      hostRead off 4 t = .next { t with host := { t.host with reads := t.host.reads ++ [v] } } ∧
      (∀ off' ∈ [0x00, 0x04, 0x08, 0x0C, 0x10, 0x14, 0x18, 0x1C, 0x20, 0x24, 0x28, 0x2C, 0x30], off' ≠ off →
        ∃ r, regAt off' = some r ∧ t.regValue r = s.regValue r)) ∧
  (∀ s t : State, step s = .next t →
    s.takeEvent.1 = .reset ∨
    ((t.wbuf0 ≠ s.wbuf0 → stepWrite s = some (0x0C, t.wbuf0)) ∧
     (t.wbuf1 ≠ s.wbuf1 → stepWrite s = some (0x10, t.wbuf1)) ∧
     (t.wbuf2 ≠ s.wbuf2 → stepWrite s = some (0x14, t.wbuf2)) ∧
     (t.wbuf3 ≠ s.wbuf3 → stepWrite s = some (0x18, t.wbuf3)))) ∧
  (∀ (s t : State) (dev : DevAddr) (len : BitVec 5), (Instr.writeBlock dev len).WellFormed →
    s.status.btBusy = false → exec (.writeBlock dev len) s = .next t →
    t.bt.buf = s.block ∧ t.outstanding = some (.write dev (s.block.toList.take len.toNat) false))

/-- A host write to WBUF0 to WBUF3 or PWT_TIMEOUT does not change an operation in flight: it commutes with
every answer and every tick, and leaves the outstanding primitive and both sequencers alone (R33, R85,
R270). -/
def Obligations.OperandWritesLeaveOperationsAlone : Prop :=
  ∀ (s t : State) (v : Word), ∀ off ∈ [0x0C, 0x10, 0x14, 0x18, 0x20], hostWrite off 4 v s = .next t →
    t.outstanding = s.outstanding ∧ t.bt = s.bt ∧ t.pwt = s.pwt ∧
    (∀ d : Draw, hostWrite off 4 v (s.btAnswer d) = .next (t.btAnswer d)) ∧
    (∀ e : Level, hostWrite off 4 v (s.tick e) = .next (t.tick e))

/-- R25: an operation starts only by a host write to CMD of a word that decodes to a command of that unit;
CMD stores nothing, and a host read of it returns 0. -/
def Obligations.OperationsStartOnlyByCommandWrites : Prop :=
  (∀ (s t : State) (u : BlockUnit), step s = .next t → s.busy u = false → t.busy u = true →
    ∃ w i, stepWrite s = some (0x00, w) ∧ decode w = .ok i ∧ i.unit = u) ∧
  (∀ s : State, s.regValue .cmd = 0x00000000#32) ∧
  (∀ (s : State) (w : Word),
    hostWrite 0x00 4 w s =
      match decode w with
      | .ok i => exec i s
      | .error _ => .next { s with status := { s.status with cmdIllegal := true } })

/-- R116: a WAIT reads its register once a turn and stays in front of the host's program until the masked
value matches. -/
def Obligations.WaitRepeatsUntilItMatches : Prop :=
  ∀ (s : State) (es : List Event) (ops : List HostOp) (mask value : Word),
    s.events = .host :: es → s.host.call = none → s.host.program = .wait 0x04 mask value :: ops →
    step s = .next { s with
      events := es
      host := { s.host with
        reads := s.host.reads ++ [s.status.word]
        program := if s.status.word &&& mask = value then ops else .wait 0x04 mask value :: ops } }

/-! ## Reset (10_state.md R48, 70_reset_and_hazards.md) -/

/-- R48: the values after reset that the rule gives. -/
def Obligations.ResetStateHasTheRulesValues : Prop :=
  State.reset.status.word = 0x00000000#32 ∧ State.reset.rdata = 0x00000000#32 ∧
  State.reset.wbuf0 = 0x00000000#32 ∧ State.reset.wbuf1 = 0x00000000#32 ∧
  State.reset.wbuf2 = 0x00000000#32 ∧ State.reset.wbuf3 = 0x00000000#32 ∧
  State.reset.pwtTimeout = 0x00000000#32 ∧ State.reset.pwtStart = 0x00000000#32 ∧
  State.reset.pwtEnd = 0x00000000#32 ∧ State.reset.pwtDuration = 0x00000000#32 ∧
  State.reset.regValue .cmd = 0x00000000#32 ∧
  State.reset.bt.state = .idle ∧ State.reset.bt.held = false ∧ State.reset.pwt.state = .idle ∧
  State.reset.trigOut = false ∧ State.reset.outstanding = none

/-- A reset event from any state: both units are idle, every register but TICKS reads 0, TrigOut is 0 and no
primitive is outstanding (R260, R261, R262). Two clauses are the model's choice: an unanswered primitive
joins the list of orphans (log entry 5), and the host, the bus trace, the parameters and the queued events
stay (log entry 6). -/
def Obligations.ResetAbortsOperations : Prop :=
  ∀ (s : State) (es : List Event), s.events = .reset :: es →
    ∃ t, step s = .next t ∧
      (∀ off r, regAt off = some r → r ≠ .ticks → t.regValue r = 0x00000000#32) ∧
      t.bt.state = .idle ∧ t.bt.held = false ∧ t.pwt.state = .idle ∧ t.trigOut = false ∧
      t.outstanding = none ∧ t.orphans = s.orphans ++ s.outstanding.toList ∧
      t.host = s.host ∧ t.trace = s.trace ∧ t.par = s.par ∧ t.events = es

/-- An answer that arrives after a reset for a primitive issued before it is discarded, whatever the BT is
doing by then, and so is an answer that finds the BT idle (R130, R261). That late answers come oldest first
and an answer in IDLE changes nothing is the model's choice (log entry 5). -/
def Obligations.LateAnswersAreDiscarded : Prop :=
  ∀ (s : State) (es : List Event) (d : Draw),
    (s.events = .lateAnswer d :: es →
      step s = .next { s with events := es, orphans := s.orphans.tail }) ∧
    (s.events = .answer d :: es → s.bt.state = .idle → step s = .next { s with events := es })

/-! ## Invariants -/

/-- The invariants hold right after reset, whatever the values are that the spec leaves unspecified there
(R48; log entries 1 and 2). -/
def Obligations.InvariantsHoldAtReset : Prop :=
  Consistent State.reset ∧ OutstandingFits State.reset ∧ TraceFits State.reset ∧
  MeasurementFits State.reset ∧ RdataIsByte State.reset ∧ State.reset.par.Legal

/-- The spec's list of what holds "In every reachable state" (10_state.md section 7, an inference the spec
marks as its own) holds at reset and every step keeps it. -/
def Obligations.StepKeepsStatusConsistent : Prop :=
  Consistent State.reset ∧ ∀ s t : State, Consistent s → step s = .next t → Consistent t

/-- Every step keeps the outstanding primitive the one the BT's state waits for: none in IDLE, exactly one
in ADDR, DATA and WRITE (R40, R83). -/
def Obligations.StepKeepsOnePrimitiveOutstanding : Prop :=
  ∀ s t : State, Consistent s → OutstandingFits s → step s = .next t → OutstandingFits t

/-- Every step keeps the bus trace in phase order: each read stands directly after the held, acknowledged
one-byte write to the same device, so nothing comes between the phases of a READ_REG (R84, R138, R139). -/
def Obligations.StepKeepsPhaseOrderOnTheBus : Prop :=
  ∀ s t : State, Consistent s → OutstandingFits s → TraceFits s → step s = .next t → TraceFits t

/-- Every step keeps a successful duration the difference of the timestamps and within 1 and the latched
budget, and the results 0 before the rise. An inference the spec marks as its own ("A measurement that ends
without error has `1 <= PWT_DURATION <= pwt.timeout`", 42_pulse_timer.md section 3). -/
def Obligations.StepKeepsMeasurementBounds : Prop :=
  ∀ s t : State, s.par.Legal → Consistent s → MeasurementFits s → step s = .next t → MeasurementFits t

/-- Every step keeps bits 31 to 8 of RDATA 0 (R31). -/
def Obligations.StepKeepsRdataAByte : Prop :=
  ∀ s t : State, RdataIsByte s → step s = .next t → RdataIsByte t

/-- No step changes the parameters (R7). -/
def Obligations.StepKeepsTheParameters : Prop :=
  ∀ s t : State, step s = .next t → t.par = s.par

/-- The units do not interfere: a tick commutes with a transport answer and with the acceptance or refusal
of every BT command, and a transport answer commutes with that of PULSE_MEASURE (R114, R144, R242). -/
def Obligations.UnitsDoNotInterfere : Prop :=
  (∀ (s : State) (d : Draw) (e : Level), (s.btAnswer d).tick e = (s.tick e).btAnswer d) ∧
  (∀ (s t : State) (i : Instr) (e : Level), i.unit = .bt → exec i s = .next t →
    exec i (s.tick e) = .next (t.tick e)) ∧
  (∀ (s t : State) (d : Draw), exec .pulseMeasure s = .next t →
    exec .pulseMeasure (s.btAnswer d) = .next (t.btAnswer d))

/-! ## The host reference (48_host_reference.md) -/

/-- R210: `decode16` is the 16-bit pattern of the two bytes, high byte first, read as two's complement, and
lies in -32768 to 32767. -/
def Obligations.RawSampleIsTwosComplement : Prop :=
  ∀ h l : Byte,
    decode16 h l =
      (if h.getLsbD 7 then (256 * h.toNat + l.toNat : Int) - 65536 else 256 * h.toNat + l.toNat) ∧
    -32768 ≤ decode16 h l ∧ decode16 h l ≤ 32767

/-- `enable()` before Verified and a sample read before Enabled are refused, and no command is issued by them
(R216). That every other call starts by a turn that touches no register is the model's choice (log entry
13): the call is then under way with its commands still to issue, those of R205 to R209 and R214, and a
reconstruction, which has none, has returned with the driver Uninitialized (R204). -/
def Obligations.DriverCallInWrongStateIsRefused : Prop :=
  ∀ (s : State) (es : List Event) (ops : List HostOp) (c : DriverCall),
    s.events = .host :: es → s.host.call = none → s.host.program = .call c :: ops →
    ((c = .enable ∧ s.host.driver = .uninitialized) ∨
      ((c = .readAngularRateZ ∨ c = .readAccelerationXY) ∧ s.host.driver ≠ .enabled) →
      step s = .refused .driverCallInWrongState) ∧
    (¬ ((c = .enable ∧ s.host.driver = .uninitialized) ∨
      ((c = .readAngularRateZ ∨ c = .readAccelerationXY) ∧ s.host.driver ≠ .enabled)) →
      step s = .next { s with
        events := es
        host :=
          match c with
          | .construct =>
            { s.host with
              program := ops, call := none, driver := .uninitialized, results := s.host.results ++ [.ok] }
          | .identify =>
            { s.host with program := ops, call := some ⟨c, [.readReg 0x6A#7 0x0F#8], [], .issue⟩ }
          | .enable =>
            { s.host with
              program := ops
              call := some
                ⟨c, [.writeReg 0x6A#7 0x10#8 0xA0#8, .writeReg 0x6A#7 0x11#8 0x80#8], [], .issue⟩ }
          | .readAngularRateZ =>
            { s.host with
              program := ops
              call := some ⟨c, [.readReg 0x6A#7 0x27#8, .readReg 0x6A#7 0x26#8], [], .issue⟩ }
          | .readAccelerationXY =>
            { s.host with
              program := ops
              call := some
                ⟨c, [.readReg 0x6A#7 0x29#8, .readReg 0x6A#7 0x28#8, .readReg 0x6A#7 0x2B#8,
                  .readReg 0x6A#7 0x2A#8], [], .issue⟩ }
          | .readStatus =>
            { s.host with program := ops, call := some ⟨c, [.readReg 0x6A#7 0x1E#8], [], .issue⟩ }
          | .measure =>
            { s.host with program := ops, call := some ⟨c, [.pulseMeasure], [], .issue⟩ } })

/-- A driver call whose BT command ended with an error returns `SensorError::Bus(kind)` at once: the driver
state is unchanged, no further command is issued, and no call is under way (R203, R205 to R209, R215). -/
def Obligations.BusErrorEndsTheDriverCall : Prop :=
  ∀ (s : State) (es : List Event) (f : CallFrame) (i : Instr) (rest : List Instr),
    s.events = .host :: es → s.host.call = some f → f.todo = i :: rest → f.phase = .status →
    i.unit = .bt → s.status.btErr = true →
    s.status.btErrCode = 0b01#2 ∨ s.status.btErrCode = 0b10#2 →
    step s = .next { s with
      events := es
      host := { s.host with
        call := none
        reads := s.host.reads ++ [s.status.word]
        results := s.host.results ++
          [.bus (if s.status.btErrCode = 0b01#2 then .noAck else .timeout)] } }

/-- `identify()` run against the block: from an idle BT with no bus error, on the schedule call, CMD write,
two answers, poll, status read, data read, the driver enters Verified from Uninitialized if and only if the
byte read is 0x69, and any other byte returns IdentityMismatch and leaves the state (R205). -/
def Obligations.IdentifyVerifiesOnlyTheExpectedByte : Prop :=
  ∀ (s : State) (a b : Byte) (es : List Event) (ops : List HostOp),
    s.status.btBusy = false → s.host.call = none → s.host.program = .call .identify :: ops →
    s.events =
      [.host, .host, .answer (.ok a), .answer (.ok b), .host, .host, .host] ++ es →
    ∃ t, Host.Core.run core 7 s = .next t ∧
      t.rdata = b.setWidth 32 ∧ t.events = es ∧ t.host.program = ops ∧ t.host.call = none ∧
      t.trace = s.trace ++ [⟨.write 0x6A#7 [0x0F#8] true, .ok⟩, ⟨.read 0x6A#7 1 false, .okData b⟩] ∧
      (b = 0x69#8 →
        t.host.results = s.host.results ++ [.ok] ∧
        t.host.driver = if s.host.driver = .uninitialized then .verified else s.host.driver) ∧
      (b ≠ 0x69#8 →
        t.host.results = s.host.results ++ [.identityMismatch] ∧ t.host.driver = s.host.driver)
end

