-- ==== Sys2Proof/Laws/State.lean ====
section
/-! SUPPORT. One lemma per field per named update of the state, so that no proof unfolds a record update. -/

namespace Sys2Proof.Machine

/-! ### `State.refuseIllegal` -/

@[simp] theorem State.refuseIllegal_status (s : State) : (s.refuseIllegal).status = s.status.setIllegal := rfl
@[simp] theorem State.refuseIllegal_rdata (s : State) : (s.refuseIllegal).rdata = s.rdata := rfl
@[simp] theorem State.refuseIllegal_wbuf0 (s : State) : (s.refuseIllegal).wbuf0 = s.wbuf0 := rfl
@[simp] theorem State.refuseIllegal_wbuf1 (s : State) : (s.refuseIllegal).wbuf1 = s.wbuf1 := rfl
@[simp] theorem State.refuseIllegal_wbuf2 (s : State) : (s.refuseIllegal).wbuf2 = s.wbuf2 := rfl
@[simp] theorem State.refuseIllegal_wbuf3 (s : State) : (s.refuseIllegal).wbuf3 = s.wbuf3 := rfl
@[simp] theorem State.refuseIllegal_pwtTimeout (s : State) :
    (s.refuseIllegal).pwtTimeout = s.pwtTimeout := rfl
@[simp] theorem State.refuseIllegal_pwtStart (s : State) : (s.refuseIllegal).pwtStart = s.pwtStart := rfl
@[simp] theorem State.refuseIllegal_pwtEnd (s : State) : (s.refuseIllegal).pwtEnd = s.pwtEnd := rfl
@[simp] theorem State.refuseIllegal_pwtDuration (s : State) :
    (s.refuseIllegal).pwtDuration = s.pwtDuration := rfl
@[simp] theorem State.refuseIllegal_bt (s : State) : (s.refuseIllegal).bt = s.bt := rfl
@[simp] theorem State.refuseIllegal_pwt (s : State) : (s.refuseIllegal).pwt = s.pwt := rfl
@[simp] theorem State.refuseIllegal_trigOut (s : State) : (s.refuseIllegal).trigOut = s.trigOut := rfl
@[simp] theorem State.refuseIllegal_ticks (s : State) : (s.refuseIllegal).ticks = s.ticks := rfl
@[simp] theorem State.refuseIllegal_outstanding (s : State) :
    (s.refuseIllegal).outstanding = s.outstanding := rfl
@[simp] theorem State.refuseIllegal_orphans (s : State) : (s.refuseIllegal).orphans = s.orphans := rfl
@[simp] theorem State.refuseIllegal_trace (s : State) : (s.refuseIllegal).trace = s.trace := rfl
@[simp] theorem State.refuseIllegal_host (s : State) : (s.refuseIllegal).host = s.host := rfl
@[simp] theorem State.refuseIllegal_par (s : State) : (s.refuseIllegal).par = s.par := rfl
@[simp] theorem State.refuseIllegal_events (s : State) : (s.refuseIllegal).events = s.events := rfl
@[simp] theorem State.refuseIllegal_draws (s : State) : (s.refuseIllegal).draws = s.draws := rfl

/-! ### `State.rejectBusy` -/

@[simp] theorem State.rejectBusy_status (s : State) : (s.rejectBusy).status = s.status.setReject := rfl
@[simp] theorem State.rejectBusy_rdata (s : State) : (s.rejectBusy).rdata = s.rdata := rfl
@[simp] theorem State.rejectBusy_wbuf0 (s : State) : (s.rejectBusy).wbuf0 = s.wbuf0 := rfl
@[simp] theorem State.rejectBusy_wbuf1 (s : State) : (s.rejectBusy).wbuf1 = s.wbuf1 := rfl
@[simp] theorem State.rejectBusy_wbuf2 (s : State) : (s.rejectBusy).wbuf2 = s.wbuf2 := rfl
@[simp] theorem State.rejectBusy_wbuf3 (s : State) : (s.rejectBusy).wbuf3 = s.wbuf3 := rfl
@[simp] theorem State.rejectBusy_pwtTimeout (s : State) : (s.rejectBusy).pwtTimeout = s.pwtTimeout := rfl
@[simp] theorem State.rejectBusy_pwtStart (s : State) : (s.rejectBusy).pwtStart = s.pwtStart := rfl
@[simp] theorem State.rejectBusy_pwtEnd (s : State) : (s.rejectBusy).pwtEnd = s.pwtEnd := rfl
@[simp] theorem State.rejectBusy_pwtDuration (s : State) : (s.rejectBusy).pwtDuration = s.pwtDuration := rfl
@[simp] theorem State.rejectBusy_bt (s : State) : (s.rejectBusy).bt = s.bt := rfl
@[simp] theorem State.rejectBusy_pwt (s : State) : (s.rejectBusy).pwt = s.pwt := rfl
@[simp] theorem State.rejectBusy_trigOut (s : State) : (s.rejectBusy).trigOut = s.trigOut := rfl
@[simp] theorem State.rejectBusy_ticks (s : State) : (s.rejectBusy).ticks = s.ticks := rfl
@[simp] theorem State.rejectBusy_outstanding (s : State) : (s.rejectBusy).outstanding = s.outstanding := rfl
@[simp] theorem State.rejectBusy_orphans (s : State) : (s.rejectBusy).orphans = s.orphans := rfl
@[simp] theorem State.rejectBusy_trace (s : State) : (s.rejectBusy).trace = s.trace := rfl
@[simp] theorem State.rejectBusy_host (s : State) : (s.rejectBusy).host = s.host := rfl
@[simp] theorem State.rejectBusy_par (s : State) : (s.rejectBusy).par = s.par := rfl
@[simp] theorem State.rejectBusy_events (s : State) : (s.rejectBusy).events = s.events := rfl
@[simp] theorem State.rejectBusy_draws (s : State) : (s.rejectBusy).draws = s.draws := rfl

/-! ### `State.issue` -/

@[simp] theorem State.issue_status (s : State) (p : Primitive) : (s.issue p).status = s.status := rfl
@[simp] theorem State.issue_rdata (s : State) (p : Primitive) : (s.issue p).rdata = s.rdata := rfl
@[simp] theorem State.issue_wbuf0 (s : State) (p : Primitive) : (s.issue p).wbuf0 = s.wbuf0 := rfl
@[simp] theorem State.issue_wbuf1 (s : State) (p : Primitive) : (s.issue p).wbuf1 = s.wbuf1 := rfl
@[simp] theorem State.issue_wbuf2 (s : State) (p : Primitive) : (s.issue p).wbuf2 = s.wbuf2 := rfl
@[simp] theorem State.issue_wbuf3 (s : State) (p : Primitive) : (s.issue p).wbuf3 = s.wbuf3 := rfl
@[simp] theorem State.issue_pwtTimeout (s : State) (p : Primitive) :
    (s.issue p).pwtTimeout = s.pwtTimeout := rfl
@[simp] theorem State.issue_pwtStart (s : State) (p : Primitive) : (s.issue p).pwtStart = s.pwtStart := rfl
@[simp] theorem State.issue_pwtEnd (s : State) (p : Primitive) : (s.issue p).pwtEnd = s.pwtEnd := rfl
@[simp] theorem State.issue_pwtDuration (s : State) (p : Primitive) :
    (s.issue p).pwtDuration = s.pwtDuration := rfl
@[simp] theorem State.issue_bt (s : State) (p : Primitive) : (s.issue p).bt = s.bt := rfl
@[simp] theorem State.issue_pwt (s : State) (p : Primitive) : (s.issue p).pwt = s.pwt := rfl
@[simp] theorem State.issue_trigOut (s : State) (p : Primitive) : (s.issue p).trigOut = s.trigOut := rfl
@[simp] theorem State.issue_ticks (s : State) (p : Primitive) : (s.issue p).ticks = s.ticks := rfl
@[simp] theorem State.issue_outstanding (s : State) (p : Primitive) : (s.issue p).outstanding = some p := rfl
@[simp] theorem State.issue_orphans (s : State) (p : Primitive) : (s.issue p).orphans = s.orphans := rfl
@[simp] theorem State.issue_trace (s : State) (p : Primitive) : (s.issue p).trace = s.trace := rfl
@[simp] theorem State.issue_host (s : State) (p : Primitive) : (s.issue p).host = s.host := rfl
@[simp] theorem State.issue_par (s : State) (p : Primitive) : (s.issue p).par = s.par := rfl
@[simp] theorem State.issue_events (s : State) (p : Primitive) : (s.issue p).events = s.events := rfl
@[simp] theorem State.issue_draws (s : State) (p : Primitive) : (s.issue p).draws = s.draws := rfl

/-! ### `State.record` -/

@[simp] theorem State.record_status (s : State) (d : Draw) : (s.record d).status = s.status := rfl
@[simp] theorem State.record_rdata (s : State) (d : Draw) : (s.record d).rdata = s.rdata := rfl
@[simp] theorem State.record_wbuf0 (s : State) (d : Draw) : (s.record d).wbuf0 = s.wbuf0 := rfl
@[simp] theorem State.record_wbuf1 (s : State) (d : Draw) : (s.record d).wbuf1 = s.wbuf1 := rfl
@[simp] theorem State.record_wbuf2 (s : State) (d : Draw) : (s.record d).wbuf2 = s.wbuf2 := rfl
@[simp] theorem State.record_wbuf3 (s : State) (d : Draw) : (s.record d).wbuf3 = s.wbuf3 := rfl
@[simp] theorem State.record_pwtTimeout (s : State) (d : Draw) : (s.record d).pwtTimeout = s.pwtTimeout := rfl
@[simp] theorem State.record_pwtStart (s : State) (d : Draw) : (s.record d).pwtStart = s.pwtStart := rfl
@[simp] theorem State.record_pwtEnd (s : State) (d : Draw) : (s.record d).pwtEnd = s.pwtEnd := rfl
@[simp] theorem State.record_pwtDuration (s : State) (d : Draw) :
    (s.record d).pwtDuration = s.pwtDuration := rfl
@[simp] theorem State.record_bt (s : State) (d : Draw) : (s.record d).bt = s.bt := rfl
@[simp] theorem State.record_pwt (s : State) (d : Draw) : (s.record d).pwt = s.pwt := rfl
@[simp] theorem State.record_trigOut (s : State) (d : Draw) : (s.record d).trigOut = s.trigOut := rfl
@[simp] theorem State.record_ticks (s : State) (d : Draw) : (s.record d).ticks = s.ticks := rfl
@[simp] theorem State.record_outstanding (s : State) (d : Draw) : (s.record d).outstanding = none := rfl
@[simp] theorem State.record_orphans (s : State) (d : Draw) : (s.record d).orphans = s.orphans := rfl
@[simp] theorem State.record_trace (s : State) (d : Draw) :
    (s.record d).trace = s.trace ++ (s.outstanding.map fun p => (⟨p, p.answer d⟩ : Transfer)).toList := rfl
@[simp] theorem State.record_host (s : State) (d : Draw) : (s.record d).host = s.host := rfl
@[simp] theorem State.record_par (s : State) (d : Draw) : (s.record d).par = s.par := rfl
@[simp] theorem State.record_events (s : State) (d : Draw) : (s.record d).events = s.events := rfl
@[simp] theorem State.record_draws (s : State) (d : Draw) : (s.record d).draws = s.draws := rfl

/-! ### `State.btStart` -/

@[simp] theorem State.btStart_status (s : State) (dev : DevAddr) (st : BtState) :
    (s.btStart dev st).status = s.status.btAccept := rfl
@[simp] theorem State.btStart_rdata (s : State) (dev : DevAddr) (st : BtState) :
    (s.btStart dev st).rdata = s.rdata := rfl
@[simp] theorem State.btStart_wbuf0 (s : State) (dev : DevAddr) (st : BtState) :
    (s.btStart dev st).wbuf0 = s.wbuf0 := rfl
@[simp] theorem State.btStart_wbuf1 (s : State) (dev : DevAddr) (st : BtState) :
    (s.btStart dev st).wbuf1 = s.wbuf1 := rfl
@[simp] theorem State.btStart_wbuf2 (s : State) (dev : DevAddr) (st : BtState) :
    (s.btStart dev st).wbuf2 = s.wbuf2 := rfl
@[simp] theorem State.btStart_wbuf3 (s : State) (dev : DevAddr) (st : BtState) :
    (s.btStart dev st).wbuf3 = s.wbuf3 := rfl
@[simp] theorem State.btStart_pwtTimeout (s : State) (dev : DevAddr) (st : BtState) :
    (s.btStart dev st).pwtTimeout = s.pwtTimeout := rfl
@[simp] theorem State.btStart_pwtStart (s : State) (dev : DevAddr) (st : BtState) :
    (s.btStart dev st).pwtStart = s.pwtStart := rfl
@[simp] theorem State.btStart_pwtEnd (s : State) (dev : DevAddr) (st : BtState) :
    (s.btStart dev st).pwtEnd = s.pwtEnd := rfl
@[simp] theorem State.btStart_pwtDuration (s : State) (dev : DevAddr) (st : BtState) :
    (s.btStart dev st).pwtDuration = s.pwtDuration := rfl
@[simp] theorem State.btStart_bt (s : State) (dev : DevAddr) (st : BtState) :
    (s.btStart dev st).bt = { s.bt with dev := dev, state := st } := rfl
@[simp] theorem State.btStart_pwt (s : State) (dev : DevAddr) (st : BtState) :
    (s.btStart dev st).pwt = s.pwt := rfl
@[simp] theorem State.btStart_trigOut (s : State) (dev : DevAddr) (st : BtState) :
    (s.btStart dev st).trigOut = s.trigOut := rfl
@[simp] theorem State.btStart_ticks (s : State) (dev : DevAddr) (st : BtState) :
    (s.btStart dev st).ticks = s.ticks := rfl
@[simp] theorem State.btStart_outstanding (s : State) (dev : DevAddr) (st : BtState) :
    (s.btStart dev st).outstanding = s.outstanding := rfl
@[simp] theorem State.btStart_orphans (s : State) (dev : DevAddr) (st : BtState) :
    (s.btStart dev st).orphans = s.orphans := rfl
@[simp] theorem State.btStart_trace (s : State) (dev : DevAddr) (st : BtState) :
    (s.btStart dev st).trace = s.trace := rfl
@[simp] theorem State.btStart_host (s : State) (dev : DevAddr) (st : BtState) :
    (s.btStart dev st).host = s.host := rfl
@[simp] theorem State.btStart_par (s : State) (dev : DevAddr) (st : BtState) :
    (s.btStart dev st).par = s.par := rfl
@[simp] theorem State.btStart_events (s : State) (dev : DevAddr) (st : BtState) :
    (s.btStart dev st).events = s.events := rfl
@[simp] theorem State.btStart_draws (s : State) (dev : DevAddr) (st : BtState) :
    (s.btStart dev st).draws = s.draws := rfl

/-! ### `State.btFinish` -/

@[simp] theorem State.btFinish_status (s : State) : (s.btFinish).status = s.status.btFinishOk := rfl
@[simp] theorem State.btFinish_rdata (s : State) : (s.btFinish).rdata = s.rdata := rfl
@[simp] theorem State.btFinish_wbuf0 (s : State) : (s.btFinish).wbuf0 = s.wbuf0 := rfl
@[simp] theorem State.btFinish_wbuf1 (s : State) : (s.btFinish).wbuf1 = s.wbuf1 := rfl
@[simp] theorem State.btFinish_wbuf2 (s : State) : (s.btFinish).wbuf2 = s.wbuf2 := rfl
@[simp] theorem State.btFinish_wbuf3 (s : State) : (s.btFinish).wbuf3 = s.wbuf3 := rfl
@[simp] theorem State.btFinish_pwtTimeout (s : State) : (s.btFinish).pwtTimeout = s.pwtTimeout := rfl
@[simp] theorem State.btFinish_pwtStart (s : State) : (s.btFinish).pwtStart = s.pwtStart := rfl
@[simp] theorem State.btFinish_pwtEnd (s : State) : (s.btFinish).pwtEnd = s.pwtEnd := rfl
@[simp] theorem State.btFinish_pwtDuration (s : State) : (s.btFinish).pwtDuration = s.pwtDuration := rfl
@[simp] theorem State.btFinish_bt (s : State) : (s.btFinish).bt = { s.bt with state := .idle } := rfl
@[simp] theorem State.btFinish_pwt (s : State) : (s.btFinish).pwt = s.pwt := rfl
@[simp] theorem State.btFinish_trigOut (s : State) : (s.btFinish).trigOut = s.trigOut := rfl
@[simp] theorem State.btFinish_ticks (s : State) : (s.btFinish).ticks = s.ticks := rfl
@[simp] theorem State.btFinish_outstanding (s : State) : (s.btFinish).outstanding = s.outstanding := rfl
@[simp] theorem State.btFinish_orphans (s : State) : (s.btFinish).orphans = s.orphans := rfl
@[simp] theorem State.btFinish_trace (s : State) : (s.btFinish).trace = s.trace := rfl
@[simp] theorem State.btFinish_host (s : State) : (s.btFinish).host = s.host := rfl
@[simp] theorem State.btFinish_par (s : State) : (s.btFinish).par = s.par := rfl
@[simp] theorem State.btFinish_events (s : State) : (s.btFinish).events = s.events := rfl
@[simp] theorem State.btFinish_draws (s : State) : (s.btFinish).draws = s.draws := rfl

/-! ### `State.btRaise` -/

@[simp] theorem State.btRaise_status (s : State) (e : BusErrorKind) (step : BusStep) :
    (s.btRaise e step).status = s.status.btFinishErr e step := rfl
@[simp] theorem State.btRaise_rdata (s : State) (e : BusErrorKind) (step : BusStep) :
    (s.btRaise e step).rdata = s.rdata := rfl
@[simp] theorem State.btRaise_wbuf0 (s : State) (e : BusErrorKind) (step : BusStep) :
    (s.btRaise e step).wbuf0 = s.wbuf0 := rfl
@[simp] theorem State.btRaise_wbuf1 (s : State) (e : BusErrorKind) (step : BusStep) :
    (s.btRaise e step).wbuf1 = s.wbuf1 := rfl
@[simp] theorem State.btRaise_wbuf2 (s : State) (e : BusErrorKind) (step : BusStep) :
    (s.btRaise e step).wbuf2 = s.wbuf2 := rfl
@[simp] theorem State.btRaise_wbuf3 (s : State) (e : BusErrorKind) (step : BusStep) :
    (s.btRaise e step).wbuf3 = s.wbuf3 := rfl
@[simp] theorem State.btRaise_pwtTimeout (s : State) (e : BusErrorKind) (step : BusStep) :
    (s.btRaise e step).pwtTimeout = s.pwtTimeout := rfl
@[simp] theorem State.btRaise_pwtStart (s : State) (e : BusErrorKind) (step : BusStep) :
    (s.btRaise e step).pwtStart = s.pwtStart := rfl
@[simp] theorem State.btRaise_pwtEnd (s : State) (e : BusErrorKind) (step : BusStep) :
    (s.btRaise e step).pwtEnd = s.pwtEnd := rfl
@[simp] theorem State.btRaise_pwtDuration (s : State) (e : BusErrorKind) (step : BusStep) :
    (s.btRaise e step).pwtDuration = s.pwtDuration := rfl
@[simp] theorem State.btRaise_bt (s : State) (e : BusErrorKind) (step : BusStep) :
    (s.btRaise e step).bt = { s.bt with state := .idle } := rfl
@[simp] theorem State.btRaise_pwt (s : State) (e : BusErrorKind) (step : BusStep) :
    (s.btRaise e step).pwt = s.pwt := rfl
@[simp] theorem State.btRaise_trigOut (s : State) (e : BusErrorKind) (step : BusStep) :
    (s.btRaise e step).trigOut = s.trigOut := rfl
@[simp] theorem State.btRaise_ticks (s : State) (e : BusErrorKind) (step : BusStep) :
    (s.btRaise e step).ticks = s.ticks := rfl
@[simp] theorem State.btRaise_outstanding (s : State) (e : BusErrorKind) (step : BusStep) :
    (s.btRaise e step).outstanding = s.outstanding := rfl
@[simp] theorem State.btRaise_orphans (s : State) (e : BusErrorKind) (step : BusStep) :
    (s.btRaise e step).orphans = s.orphans := rfl
@[simp] theorem State.btRaise_trace (s : State) (e : BusErrorKind) (step : BusStep) :
    (s.btRaise e step).trace = s.trace := rfl
@[simp] theorem State.btRaise_host (s : State) (e : BusErrorKind) (step : BusStep) :
    (s.btRaise e step).host = s.host := rfl
@[simp] theorem State.btRaise_par (s : State) (e : BusErrorKind) (step : BusStep) :
    (s.btRaise e step).par = s.par := rfl
@[simp] theorem State.btRaise_events (s : State) (e : BusErrorKind) (step : BusStep) :
    (s.btRaise e step).events = s.events := rfl
@[simp] theorem State.btRaise_draws (s : State) (e : BusErrorKind) (step : BusStep) :
    (s.btRaise e step).draws = s.draws := rfl

/-! ### `State.setHeld` -/

@[simp] theorem State.setHeld_status (s : State) (v : Bool) : (s.setHeld v).status = s.status := rfl
@[simp] theorem State.setHeld_rdata (s : State) (v : Bool) : (s.setHeld v).rdata = s.rdata := rfl
@[simp] theorem State.setHeld_wbuf0 (s : State) (v : Bool) : (s.setHeld v).wbuf0 = s.wbuf0 := rfl
@[simp] theorem State.setHeld_wbuf1 (s : State) (v : Bool) : (s.setHeld v).wbuf1 = s.wbuf1 := rfl
@[simp] theorem State.setHeld_wbuf2 (s : State) (v : Bool) : (s.setHeld v).wbuf2 = s.wbuf2 := rfl
@[simp] theorem State.setHeld_wbuf3 (s : State) (v : Bool) : (s.setHeld v).wbuf3 = s.wbuf3 := rfl
@[simp] theorem State.setHeld_pwtTimeout (s : State) (v : Bool) :
    (s.setHeld v).pwtTimeout = s.pwtTimeout := rfl
@[simp] theorem State.setHeld_pwtStart (s : State) (v : Bool) : (s.setHeld v).pwtStart = s.pwtStart := rfl
@[simp] theorem State.setHeld_pwtEnd (s : State) (v : Bool) : (s.setHeld v).pwtEnd = s.pwtEnd := rfl
@[simp] theorem State.setHeld_pwtDuration (s : State) (v : Bool) :
    (s.setHeld v).pwtDuration = s.pwtDuration := rfl
@[simp] theorem State.setHeld_bt (s : State) (v : Bool) : (s.setHeld v).bt = { s.bt with held := v } := rfl
@[simp] theorem State.setHeld_pwt (s : State) (v : Bool) : (s.setHeld v).pwt = s.pwt := rfl
@[simp] theorem State.setHeld_trigOut (s : State) (v : Bool) : (s.setHeld v).trigOut = s.trigOut := rfl
@[simp] theorem State.setHeld_ticks (s : State) (v : Bool) : (s.setHeld v).ticks = s.ticks := rfl
@[simp] theorem State.setHeld_outstanding (s : State) (v : Bool) :
    (s.setHeld v).outstanding = s.outstanding := rfl
@[simp] theorem State.setHeld_orphans (s : State) (v : Bool) : (s.setHeld v).orphans = s.orphans := rfl
@[simp] theorem State.setHeld_trace (s : State) (v : Bool) : (s.setHeld v).trace = s.trace := rfl
@[simp] theorem State.setHeld_host (s : State) (v : Bool) : (s.setHeld v).host = s.host := rfl
@[simp] theorem State.setHeld_par (s : State) (v : Bool) : (s.setHeld v).par = s.par := rfl
@[simp] theorem State.setHeld_events (s : State) (v : Bool) : (s.setHeld v).events = s.events := rfl
@[simp] theorem State.setHeld_draws (s : State) (v : Bool) : (s.setHeld v).draws = s.draws := rfl

/-! ### `State.pwtEnter` -/

@[simp] theorem State.pwtEnter_status (s : State) (st : PwtState) (r : Word) :
    (s.pwtEnter st r).status = s.status := rfl
@[simp] theorem State.pwtEnter_rdata (s : State) (st : PwtState) (r : Word) :
    (s.pwtEnter st r).rdata = s.rdata := rfl
@[simp] theorem State.pwtEnter_wbuf0 (s : State) (st : PwtState) (r : Word) :
    (s.pwtEnter st r).wbuf0 = s.wbuf0 := rfl
@[simp] theorem State.pwtEnter_wbuf1 (s : State) (st : PwtState) (r : Word) :
    (s.pwtEnter st r).wbuf1 = s.wbuf1 := rfl
@[simp] theorem State.pwtEnter_wbuf2 (s : State) (st : PwtState) (r : Word) :
    (s.pwtEnter st r).wbuf2 = s.wbuf2 := rfl
@[simp] theorem State.pwtEnter_wbuf3 (s : State) (st : PwtState) (r : Word) :
    (s.pwtEnter st r).wbuf3 = s.wbuf3 := rfl
@[simp] theorem State.pwtEnter_pwtTimeout (s : State) (st : PwtState) (r : Word) :
    (s.pwtEnter st r).pwtTimeout = s.pwtTimeout := rfl
@[simp] theorem State.pwtEnter_pwtStart (s : State) (st : PwtState) (r : Word) :
    (s.pwtEnter st r).pwtStart = s.pwtStart := rfl
@[simp] theorem State.pwtEnter_pwtEnd (s : State) (st : PwtState) (r : Word) :
    (s.pwtEnter st r).pwtEnd = s.pwtEnd := rfl
@[simp] theorem State.pwtEnter_pwtDuration (s : State) (st : PwtState) (r : Word) :
    (s.pwtEnter st r).pwtDuration = s.pwtDuration := rfl
@[simp] theorem State.pwtEnter_bt (s : State) (st : PwtState) (r : Word) : (s.pwtEnter st r).bt = s.bt := rfl
@[simp] theorem State.pwtEnter_pwt (s : State) (st : PwtState) (r : Word) :
    (s.pwtEnter st r).pwt = { s.pwt with state := st, r := r } := rfl
@[simp] theorem State.pwtEnter_trigOut (s : State) (st : PwtState) (r : Word) :
    (s.pwtEnter st r).trigOut = s.trigOut := rfl
@[simp] theorem State.pwtEnter_ticks (s : State) (st : PwtState) (r : Word) :
    (s.pwtEnter st r).ticks = s.ticks := rfl
@[simp] theorem State.pwtEnter_outstanding (s : State) (st : PwtState) (r : Word) :
    (s.pwtEnter st r).outstanding = s.outstanding := rfl
@[simp] theorem State.pwtEnter_orphans (s : State) (st : PwtState) (r : Word) :
    (s.pwtEnter st r).orphans = s.orphans := rfl
@[simp] theorem State.pwtEnter_trace (s : State) (st : PwtState) (r : Word) :
    (s.pwtEnter st r).trace = s.trace := rfl
@[simp] theorem State.pwtEnter_host (s : State) (st : PwtState) (r : Word) :
    (s.pwtEnter st r).host = s.host := rfl
@[simp] theorem State.pwtEnter_par (s : State) (st : PwtState) (r : Word) :
    (s.pwtEnter st r).par = s.par := rfl
@[simp] theorem State.pwtEnter_events (s : State) (st : PwtState) (r : Word) :
    (s.pwtEnter st r).events = s.events := rfl
@[simp] theorem State.pwtEnter_draws (s : State) (st : PwtState) (r : Word) :
    (s.pwtEnter st r).draws = s.draws := rfl

/-! ### `State.pwtCountDown` -/

@[simp] theorem State.pwtCountDown_status (s : State) : (s.pwtCountDown).status = s.status := rfl
@[simp] theorem State.pwtCountDown_rdata (s : State) : (s.pwtCountDown).rdata = s.rdata := rfl
@[simp] theorem State.pwtCountDown_wbuf0 (s : State) : (s.pwtCountDown).wbuf0 = s.wbuf0 := rfl
@[simp] theorem State.pwtCountDown_wbuf1 (s : State) : (s.pwtCountDown).wbuf1 = s.wbuf1 := rfl
@[simp] theorem State.pwtCountDown_wbuf2 (s : State) : (s.pwtCountDown).wbuf2 = s.wbuf2 := rfl
@[simp] theorem State.pwtCountDown_wbuf3 (s : State) : (s.pwtCountDown).wbuf3 = s.wbuf3 := rfl
@[simp] theorem State.pwtCountDown_pwtTimeout (s : State) : (s.pwtCountDown).pwtTimeout = s.pwtTimeout := rfl
@[simp] theorem State.pwtCountDown_pwtStart (s : State) : (s.pwtCountDown).pwtStart = s.pwtStart := rfl
@[simp] theorem State.pwtCountDown_pwtEnd (s : State) : (s.pwtCountDown).pwtEnd = s.pwtEnd := rfl
@[simp] theorem State.pwtCountDown_pwtDuration (s : State) :
    (s.pwtCountDown).pwtDuration = s.pwtDuration := rfl
@[simp] theorem State.pwtCountDown_bt (s : State) : (s.pwtCountDown).bt = s.bt := rfl
@[simp] theorem State.pwtCountDown_pwt (s : State) :
    (s.pwtCountDown).pwt = { s.pwt with r := s.pwt.r - 1#32 } := rfl
@[simp] theorem State.pwtCountDown_trigOut (s : State) : (s.pwtCountDown).trigOut = s.trigOut := rfl
@[simp] theorem State.pwtCountDown_ticks (s : State) : (s.pwtCountDown).ticks = s.ticks := rfl
@[simp] theorem State.pwtCountDown_outstanding (s : State) :
    (s.pwtCountDown).outstanding = s.outstanding := rfl
@[simp] theorem State.pwtCountDown_orphans (s : State) : (s.pwtCountDown).orphans = s.orphans := rfl
@[simp] theorem State.pwtCountDown_trace (s : State) : (s.pwtCountDown).trace = s.trace := rfl
@[simp] theorem State.pwtCountDown_host (s : State) : (s.pwtCountDown).host = s.host := rfl
@[simp] theorem State.pwtCountDown_par (s : State) : (s.pwtCountDown).par = s.par := rfl
@[simp] theorem State.pwtCountDown_events (s : State) : (s.pwtCountDown).events = s.events := rfl
@[simp] theorem State.pwtCountDown_draws (s : State) : (s.pwtCountDown).draws = s.draws := rfl

/-! ### `State.setTrig` -/

@[simp] theorem State.setTrig_status (s : State) (l : Level) : (s.setTrig l).status = s.status := rfl
@[simp] theorem State.setTrig_rdata (s : State) (l : Level) : (s.setTrig l).rdata = s.rdata := rfl
@[simp] theorem State.setTrig_wbuf0 (s : State) (l : Level) : (s.setTrig l).wbuf0 = s.wbuf0 := rfl
@[simp] theorem State.setTrig_wbuf1 (s : State) (l : Level) : (s.setTrig l).wbuf1 = s.wbuf1 := rfl
@[simp] theorem State.setTrig_wbuf2 (s : State) (l : Level) : (s.setTrig l).wbuf2 = s.wbuf2 := rfl
@[simp] theorem State.setTrig_wbuf3 (s : State) (l : Level) : (s.setTrig l).wbuf3 = s.wbuf3 := rfl
@[simp] theorem State.setTrig_pwtTimeout (s : State) (l : Level) :
    (s.setTrig l).pwtTimeout = s.pwtTimeout := rfl
@[simp] theorem State.setTrig_pwtStart (s : State) (l : Level) : (s.setTrig l).pwtStart = s.pwtStart := rfl
@[simp] theorem State.setTrig_pwtEnd (s : State) (l : Level) : (s.setTrig l).pwtEnd = s.pwtEnd := rfl
@[simp] theorem State.setTrig_pwtDuration (s : State) (l : Level) :
    (s.setTrig l).pwtDuration = s.pwtDuration := rfl
@[simp] theorem State.setTrig_bt (s : State) (l : Level) : (s.setTrig l).bt = s.bt := rfl
@[simp] theorem State.setTrig_pwt (s : State) (l : Level) : (s.setTrig l).pwt = s.pwt := rfl
@[simp] theorem State.setTrig_trigOut (s : State) (l : Level) : (s.setTrig l).trigOut = l := rfl
@[simp] theorem State.setTrig_ticks (s : State) (l : Level) : (s.setTrig l).ticks = s.ticks := rfl
@[simp] theorem State.setTrig_outstanding (s : State) (l : Level) :
    (s.setTrig l).outstanding = s.outstanding := rfl
@[simp] theorem State.setTrig_orphans (s : State) (l : Level) : (s.setTrig l).orphans = s.orphans := rfl
@[simp] theorem State.setTrig_trace (s : State) (l : Level) : (s.setTrig l).trace = s.trace := rfl
@[simp] theorem State.setTrig_host (s : State) (l : Level) : (s.setTrig l).host = s.host := rfl
@[simp] theorem State.setTrig_par (s : State) (l : Level) : (s.setTrig l).par = s.par := rfl
@[simp] theorem State.setTrig_events (s : State) (l : Level) : (s.setTrig l).events = s.events := rfl
@[simp] theorem State.setTrig_draws (s : State) (l : Level) : (s.setTrig l).draws = s.draws := rfl

/-! ### `State.pwtFinish` -/

@[simp] theorem State.pwtFinish_status (s : State) : (s.pwtFinish).status = s.status.pwtFinishOk := rfl
@[simp] theorem State.pwtFinish_rdata (s : State) : (s.pwtFinish).rdata = s.rdata := rfl
@[simp] theorem State.pwtFinish_wbuf0 (s : State) : (s.pwtFinish).wbuf0 = s.wbuf0 := rfl
@[simp] theorem State.pwtFinish_wbuf1 (s : State) : (s.pwtFinish).wbuf1 = s.wbuf1 := rfl
@[simp] theorem State.pwtFinish_wbuf2 (s : State) : (s.pwtFinish).wbuf2 = s.wbuf2 := rfl
@[simp] theorem State.pwtFinish_wbuf3 (s : State) : (s.pwtFinish).wbuf3 = s.wbuf3 := rfl
@[simp] theorem State.pwtFinish_pwtTimeout (s : State) : (s.pwtFinish).pwtTimeout = s.pwtTimeout := rfl
@[simp] theorem State.pwtFinish_pwtStart (s : State) : (s.pwtFinish).pwtStart = s.pwtStart := rfl
@[simp] theorem State.pwtFinish_pwtEnd (s : State) : (s.pwtFinish).pwtEnd = s.pwtEnd := rfl
@[simp] theorem State.pwtFinish_pwtDuration (s : State) : (s.pwtFinish).pwtDuration = s.pwtDuration := rfl
@[simp] theorem State.pwtFinish_bt (s : State) : (s.pwtFinish).bt = s.bt := rfl
@[simp] theorem State.pwtFinish_pwt (s : State) : (s.pwtFinish).pwt = { s.pwt with state := .idle } := rfl
@[simp] theorem State.pwtFinish_trigOut (s : State) : (s.pwtFinish).trigOut = s.trigOut := rfl
@[simp] theorem State.pwtFinish_ticks (s : State) : (s.pwtFinish).ticks = s.ticks := rfl
@[simp] theorem State.pwtFinish_outstanding (s : State) : (s.pwtFinish).outstanding = s.outstanding := rfl
@[simp] theorem State.pwtFinish_orphans (s : State) : (s.pwtFinish).orphans = s.orphans := rfl
@[simp] theorem State.pwtFinish_trace (s : State) : (s.pwtFinish).trace = s.trace := rfl
@[simp] theorem State.pwtFinish_host (s : State) : (s.pwtFinish).host = s.host := rfl
@[simp] theorem State.pwtFinish_par (s : State) : (s.pwtFinish).par = s.par := rfl
@[simp] theorem State.pwtFinish_events (s : State) : (s.pwtFinish).events = s.events := rfl
@[simp] theorem State.pwtFinish_draws (s : State) : (s.pwtFinish).draws = s.draws := rfl

/-! ### `State.pwtRaise` -/

@[simp] theorem State.pwtRaise_status (s : State) (ph : WaitPhase) :
    (s.pwtRaise ph).status = s.status.pwtFinishErr ph := rfl
@[simp] theorem State.pwtRaise_rdata (s : State) (ph : WaitPhase) : (s.pwtRaise ph).rdata = s.rdata := rfl
@[simp] theorem State.pwtRaise_wbuf0 (s : State) (ph : WaitPhase) : (s.pwtRaise ph).wbuf0 = s.wbuf0 := rfl
@[simp] theorem State.pwtRaise_wbuf1 (s : State) (ph : WaitPhase) : (s.pwtRaise ph).wbuf1 = s.wbuf1 := rfl
@[simp] theorem State.pwtRaise_wbuf2 (s : State) (ph : WaitPhase) : (s.pwtRaise ph).wbuf2 = s.wbuf2 := rfl
@[simp] theorem State.pwtRaise_wbuf3 (s : State) (ph : WaitPhase) : (s.pwtRaise ph).wbuf3 = s.wbuf3 := rfl
@[simp] theorem State.pwtRaise_pwtTimeout (s : State) (ph : WaitPhase) :
    (s.pwtRaise ph).pwtTimeout = s.pwtTimeout := rfl
@[simp] theorem State.pwtRaise_pwtStart (s : State) (ph : WaitPhase) :
    (s.pwtRaise ph).pwtStart = s.pwtStart := rfl
@[simp] theorem State.pwtRaise_pwtEnd (s : State) (ph : WaitPhase) : (s.pwtRaise ph).pwtEnd = s.pwtEnd := rfl
@[simp] theorem State.pwtRaise_pwtDuration (s : State) (ph : WaitPhase) :
    (s.pwtRaise ph).pwtDuration = s.pwtDuration := rfl
@[simp] theorem State.pwtRaise_bt (s : State) (ph : WaitPhase) : (s.pwtRaise ph).bt = s.bt := rfl
@[simp] theorem State.pwtRaise_pwt (s : State) (ph : WaitPhase) :
    (s.pwtRaise ph).pwt = { s.pwt with state := .idle } := rfl
@[simp] theorem State.pwtRaise_trigOut (s : State) (ph : WaitPhase) :
    (s.pwtRaise ph).trigOut = s.trigOut := rfl
@[simp] theorem State.pwtRaise_ticks (s : State) (ph : WaitPhase) : (s.pwtRaise ph).ticks = s.ticks := rfl
@[simp] theorem State.pwtRaise_outstanding (s : State) (ph : WaitPhase) :
    (s.pwtRaise ph).outstanding = s.outstanding := rfl
@[simp] theorem State.pwtRaise_orphans (s : State) (ph : WaitPhase) :
    (s.pwtRaise ph).orphans = s.orphans := rfl
@[simp] theorem State.pwtRaise_trace (s : State) (ph : WaitPhase) : (s.pwtRaise ph).trace = s.trace := rfl
@[simp] theorem State.pwtRaise_host (s : State) (ph : WaitPhase) : (s.pwtRaise ph).host = s.host := rfl
@[simp] theorem State.pwtRaise_par (s : State) (ph : WaitPhase) : (s.pwtRaise ph).par = s.par := rfl
@[simp] theorem State.pwtRaise_events (s : State) (ph : WaitPhase) : (s.pwtRaise ph).events = s.events := rfl
@[simp] theorem State.pwtRaise_draws (s : State) (ph : WaitPhase) : (s.pwtRaise ph).draws = s.draws := rfl

/-! ### `State.discardLate` -/

@[simp] theorem State.discardLate_status (s : State) : (s.discardLate).status = s.status := rfl
@[simp] theorem State.discardLate_rdata (s : State) : (s.discardLate).rdata = s.rdata := rfl
@[simp] theorem State.discardLate_wbuf0 (s : State) : (s.discardLate).wbuf0 = s.wbuf0 := rfl
@[simp] theorem State.discardLate_wbuf1 (s : State) : (s.discardLate).wbuf1 = s.wbuf1 := rfl
@[simp] theorem State.discardLate_wbuf2 (s : State) : (s.discardLate).wbuf2 = s.wbuf2 := rfl
@[simp] theorem State.discardLate_wbuf3 (s : State) : (s.discardLate).wbuf3 = s.wbuf3 := rfl
@[simp] theorem State.discardLate_pwtTimeout (s : State) : (s.discardLate).pwtTimeout = s.pwtTimeout := rfl
@[simp] theorem State.discardLate_pwtStart (s : State) : (s.discardLate).pwtStart = s.pwtStart := rfl
@[simp] theorem State.discardLate_pwtEnd (s : State) : (s.discardLate).pwtEnd = s.pwtEnd := rfl
@[simp] theorem State.discardLate_pwtDuration (s : State) : (s.discardLate).pwtDuration = s.pwtDuration := rfl
@[simp] theorem State.discardLate_bt (s : State) : (s.discardLate).bt = s.bt := rfl
@[simp] theorem State.discardLate_pwt (s : State) : (s.discardLate).pwt = s.pwt := rfl
@[simp] theorem State.discardLate_trigOut (s : State) : (s.discardLate).trigOut = s.trigOut := rfl
@[simp] theorem State.discardLate_ticks (s : State) : (s.discardLate).ticks = s.ticks := rfl
@[simp] theorem State.discardLate_outstanding (s : State) : (s.discardLate).outstanding = s.outstanding := rfl
@[simp] theorem State.discardLate_orphans (s : State) : (s.discardLate).orphans = s.orphans.tail := rfl
@[simp] theorem State.discardLate_trace (s : State) : (s.discardLate).trace = s.trace := rfl
@[simp] theorem State.discardLate_host (s : State) : (s.discardLate).host = s.host := rfl
@[simp] theorem State.discardLate_par (s : State) : (s.discardLate).par = s.par := rfl
@[simp] theorem State.discardLate_events (s : State) : (s.discardLate).events = s.events := rfl
@[simp] theorem State.discardLate_draws (s : State) : (s.discardLate).draws = s.draws := rfl

/-! ### `State.returnRead` -/

@[simp] theorem State.returnRead_status (s : State) (v : Word) : (s.returnRead v).status = s.status := rfl
@[simp] theorem State.returnRead_rdata (s : State) (v : Word) : (s.returnRead v).rdata = s.rdata := rfl
@[simp] theorem State.returnRead_wbuf0 (s : State) (v : Word) : (s.returnRead v).wbuf0 = s.wbuf0 := rfl
@[simp] theorem State.returnRead_wbuf1 (s : State) (v : Word) : (s.returnRead v).wbuf1 = s.wbuf1 := rfl
@[simp] theorem State.returnRead_wbuf2 (s : State) (v : Word) : (s.returnRead v).wbuf2 = s.wbuf2 := rfl
@[simp] theorem State.returnRead_wbuf3 (s : State) (v : Word) : (s.returnRead v).wbuf3 = s.wbuf3 := rfl
@[simp] theorem State.returnRead_pwtTimeout (s : State) (v : Word) :
    (s.returnRead v).pwtTimeout = s.pwtTimeout := rfl
@[simp] theorem State.returnRead_pwtStart (s : State) (v : Word) :
    (s.returnRead v).pwtStart = s.pwtStart := rfl
@[simp] theorem State.returnRead_pwtEnd (s : State) (v : Word) : (s.returnRead v).pwtEnd = s.pwtEnd := rfl
@[simp] theorem State.returnRead_pwtDuration (s : State) (v : Word) :
    (s.returnRead v).pwtDuration = s.pwtDuration := rfl
@[simp] theorem State.returnRead_bt (s : State) (v : Word) : (s.returnRead v).bt = s.bt := rfl
@[simp] theorem State.returnRead_pwt (s : State) (v : Word) : (s.returnRead v).pwt = s.pwt := rfl
@[simp] theorem State.returnRead_trigOut (s : State) (v : Word) : (s.returnRead v).trigOut = s.trigOut := rfl
@[simp] theorem State.returnRead_ticks (s : State) (v : Word) : (s.returnRead v).ticks = s.ticks := rfl
@[simp] theorem State.returnRead_outstanding (s : State) (v : Word) :
    (s.returnRead v).outstanding = s.outstanding := rfl
@[simp] theorem State.returnRead_orphans (s : State) (v : Word) : (s.returnRead v).orphans = s.orphans := rfl
@[simp] theorem State.returnRead_trace (s : State) (v : Word) : (s.returnRead v).trace = s.trace := rfl
@[simp] theorem State.returnRead_host (s : State) (v : Word) :
    (s.returnRead v).host = { s.host with reads := s.host.reads ++ [v] } := rfl
@[simp] theorem State.returnRead_par (s : State) (v : Word) : (s.returnRead v).par = s.par := rfl
@[simp] theorem State.returnRead_events (s : State) (v : Word) : (s.returnRead v).events = s.events := rfl
@[simp] theorem State.returnRead_draws (s : State) (v : Word) : (s.returnRead v).draws = s.draws := rfl

/-! ### `State.setCall` -/

@[simp] theorem State.setCall_status (s : State) (f : Option CallFrame) :
    (s.setCall f).status = s.status := rfl
@[simp] theorem State.setCall_rdata (s : State) (f : Option CallFrame) : (s.setCall f).rdata = s.rdata := rfl
@[simp] theorem State.setCall_wbuf0 (s : State) (f : Option CallFrame) : (s.setCall f).wbuf0 = s.wbuf0 := rfl
@[simp] theorem State.setCall_wbuf1 (s : State) (f : Option CallFrame) : (s.setCall f).wbuf1 = s.wbuf1 := rfl
@[simp] theorem State.setCall_wbuf2 (s : State) (f : Option CallFrame) : (s.setCall f).wbuf2 = s.wbuf2 := rfl
@[simp] theorem State.setCall_wbuf3 (s : State) (f : Option CallFrame) : (s.setCall f).wbuf3 = s.wbuf3 := rfl
@[simp] theorem State.setCall_pwtTimeout (s : State) (f : Option CallFrame) :
    (s.setCall f).pwtTimeout = s.pwtTimeout := rfl
@[simp] theorem State.setCall_pwtStart (s : State) (f : Option CallFrame) :
    (s.setCall f).pwtStart = s.pwtStart := rfl
@[simp] theorem State.setCall_pwtEnd (s : State) (f : Option CallFrame) :
    (s.setCall f).pwtEnd = s.pwtEnd := rfl
@[simp] theorem State.setCall_pwtDuration (s : State) (f : Option CallFrame) :
    (s.setCall f).pwtDuration = s.pwtDuration := rfl
@[simp] theorem State.setCall_bt (s : State) (f : Option CallFrame) : (s.setCall f).bt = s.bt := rfl
@[simp] theorem State.setCall_pwt (s : State) (f : Option CallFrame) : (s.setCall f).pwt = s.pwt := rfl
@[simp] theorem State.setCall_trigOut (s : State) (f : Option CallFrame) :
    (s.setCall f).trigOut = s.trigOut := rfl
@[simp] theorem State.setCall_ticks (s : State) (f : Option CallFrame) : (s.setCall f).ticks = s.ticks := rfl
@[simp] theorem State.setCall_outstanding (s : State) (f : Option CallFrame) :
    (s.setCall f).outstanding = s.outstanding := rfl
@[simp] theorem State.setCall_orphans (s : State) (f : Option CallFrame) :
    (s.setCall f).orphans = s.orphans := rfl
@[simp] theorem State.setCall_trace (s : State) (f : Option CallFrame) : (s.setCall f).trace = s.trace := rfl
@[simp] theorem State.setCall_host (s : State) (f : Option CallFrame) :
    (s.setCall f).host = { s.host with call := f } := rfl
@[simp] theorem State.setCall_par (s : State) (f : Option CallFrame) : (s.setCall f).par = s.par := rfl
@[simp] theorem State.setCall_events (s : State) (f : Option CallFrame) :
    (s.setCall f).events = s.events := rfl
@[simp] theorem State.setCall_draws (s : State) (f : Option CallFrame) : (s.setCall f).draws = s.draws := rfl

/-! ### `State.callReturn` -/

@[simp] theorem State.callReturn_status (s : State) (d : DriverState) (r : CallResult) :
    (s.callReturn d r).status = s.status := rfl
@[simp] theorem State.callReturn_rdata (s : State) (d : DriverState) (r : CallResult) :
    (s.callReturn d r).rdata = s.rdata := rfl
@[simp] theorem State.callReturn_wbuf0 (s : State) (d : DriverState) (r : CallResult) :
    (s.callReturn d r).wbuf0 = s.wbuf0 := rfl
@[simp] theorem State.callReturn_wbuf1 (s : State) (d : DriverState) (r : CallResult) :
    (s.callReturn d r).wbuf1 = s.wbuf1 := rfl
@[simp] theorem State.callReturn_wbuf2 (s : State) (d : DriverState) (r : CallResult) :
    (s.callReturn d r).wbuf2 = s.wbuf2 := rfl
@[simp] theorem State.callReturn_wbuf3 (s : State) (d : DriverState) (r : CallResult) :
    (s.callReturn d r).wbuf3 = s.wbuf3 := rfl
@[simp] theorem State.callReturn_pwtTimeout (s : State) (d : DriverState) (r : CallResult) :
    (s.callReturn d r).pwtTimeout = s.pwtTimeout := rfl
@[simp] theorem State.callReturn_pwtStart (s : State) (d : DriverState) (r : CallResult) :
    (s.callReturn d r).pwtStart = s.pwtStart := rfl
@[simp] theorem State.callReturn_pwtEnd (s : State) (d : DriverState) (r : CallResult) :
    (s.callReturn d r).pwtEnd = s.pwtEnd := rfl
@[simp] theorem State.callReturn_pwtDuration (s : State) (d : DriverState) (r : CallResult) :
    (s.callReturn d r).pwtDuration = s.pwtDuration := rfl
@[simp] theorem State.callReturn_bt (s : State) (d : DriverState) (r : CallResult) :
    (s.callReturn d r).bt = s.bt := rfl
@[simp] theorem State.callReturn_pwt (s : State) (d : DriverState) (r : CallResult) :
    (s.callReturn d r).pwt = s.pwt := rfl
@[simp] theorem State.callReturn_trigOut (s : State) (d : DriverState) (r : CallResult) :
    (s.callReturn d r).trigOut = s.trigOut := rfl
@[simp] theorem State.callReturn_ticks (s : State) (d : DriverState) (r : CallResult) :
    (s.callReturn d r).ticks = s.ticks := rfl
@[simp] theorem State.callReturn_outstanding (s : State) (d : DriverState) (r : CallResult) :
    (s.callReturn d r).outstanding = s.outstanding := rfl
@[simp] theorem State.callReturn_orphans (s : State) (d : DriverState) (r : CallResult) :
    (s.callReturn d r).orphans = s.orphans := rfl
@[simp] theorem State.callReturn_trace (s : State) (d : DriverState) (r : CallResult) :
    (s.callReturn d r).trace = s.trace := rfl
@[simp] theorem State.callReturn_host (s : State) (d : DriverState) (r : CallResult) :
    (s.callReturn d r).host = { s.host with call := none, driver := d, results := s.host.results ++ [r] } := rfl
@[simp] theorem State.callReturn_par (s : State) (d : DriverState) (r : CallResult) :
    (s.callReturn d r).par = s.par := rfl
@[simp] theorem State.callReturn_events (s : State) (d : DriverState) (r : CallResult) :
    (s.callReturn d r).events = s.events := rfl
@[simp] theorem State.callReturn_draws (s : State) (d : DriverState) (r : CallResult) :
    (s.callReturn d r).draws = s.draws := rfl

/-! ### `State.putBack` -/

@[simp] theorem State.putBack_status (s : State) (op : HostOp) : (s.putBack op).status = s.status := rfl
@[simp] theorem State.putBack_rdata (s : State) (op : HostOp) : (s.putBack op).rdata = s.rdata := rfl
@[simp] theorem State.putBack_wbuf0 (s : State) (op : HostOp) : (s.putBack op).wbuf0 = s.wbuf0 := rfl
@[simp] theorem State.putBack_wbuf1 (s : State) (op : HostOp) : (s.putBack op).wbuf1 = s.wbuf1 := rfl
@[simp] theorem State.putBack_wbuf2 (s : State) (op : HostOp) : (s.putBack op).wbuf2 = s.wbuf2 := rfl
@[simp] theorem State.putBack_wbuf3 (s : State) (op : HostOp) : (s.putBack op).wbuf3 = s.wbuf3 := rfl
@[simp] theorem State.putBack_pwtTimeout (s : State) (op : HostOp) :
    (s.putBack op).pwtTimeout = s.pwtTimeout := rfl
@[simp] theorem State.putBack_pwtStart (s : State) (op : HostOp) : (s.putBack op).pwtStart = s.pwtStart := rfl
@[simp] theorem State.putBack_pwtEnd (s : State) (op : HostOp) : (s.putBack op).pwtEnd = s.pwtEnd := rfl
@[simp] theorem State.putBack_pwtDuration (s : State) (op : HostOp) :
    (s.putBack op).pwtDuration = s.pwtDuration := rfl
@[simp] theorem State.putBack_bt (s : State) (op : HostOp) : (s.putBack op).bt = s.bt := rfl
@[simp] theorem State.putBack_pwt (s : State) (op : HostOp) : (s.putBack op).pwt = s.pwt := rfl
@[simp] theorem State.putBack_trigOut (s : State) (op : HostOp) : (s.putBack op).trigOut = s.trigOut := rfl
@[simp] theorem State.putBack_ticks (s : State) (op : HostOp) : (s.putBack op).ticks = s.ticks := rfl
@[simp] theorem State.putBack_outstanding (s : State) (op : HostOp) :
    (s.putBack op).outstanding = s.outstanding := rfl
@[simp] theorem State.putBack_orphans (s : State) (op : HostOp) : (s.putBack op).orphans = s.orphans := rfl
@[simp] theorem State.putBack_trace (s : State) (op : HostOp) : (s.putBack op).trace = s.trace := rfl
@[simp] theorem State.putBack_host (s : State) (op : HostOp) :
    (s.putBack op).host = { s.host with program := op :: s.host.program } := rfl
@[simp] theorem State.putBack_par (s : State) (op : HostOp) : (s.putBack op).par = s.par := rfl
@[simp] theorem State.putBack_events (s : State) (op : HostOp) : (s.putBack op).events = s.events := rfl
@[simp] theorem State.putBack_draws (s : State) (op : HostOp) : (s.putBack op).draws = s.draws := rfl

/-! ### `State.blockReset` -/

@[simp] theorem State.blockReset_status (s : State) : (s.blockReset).status = Status.zero := rfl
@[simp] theorem State.blockReset_rdata (s : State) : (s.blockReset).rdata = 0#32 := rfl
@[simp] theorem State.blockReset_wbuf0 (s : State) : (s.blockReset).wbuf0 = 0#32 := rfl
@[simp] theorem State.blockReset_wbuf1 (s : State) : (s.blockReset).wbuf1 = 0#32 := rfl
@[simp] theorem State.blockReset_wbuf2 (s : State) : (s.blockReset).wbuf2 = 0#32 := rfl
@[simp] theorem State.blockReset_wbuf3 (s : State) : (s.blockReset).wbuf3 = 0#32 := rfl
@[simp] theorem State.blockReset_pwtTimeout (s : State) : (s.blockReset).pwtTimeout = 0#32 := rfl
@[simp] theorem State.blockReset_pwtStart (s : State) : (s.blockReset).pwtStart = 0#32 := rfl
@[simp] theorem State.blockReset_pwtEnd (s : State) : (s.blockReset).pwtEnd = 0#32 := rfl
@[simp] theorem State.blockReset_pwtDuration (s : State) : (s.blockReset).pwtDuration = 0#32 := rfl
@[simp] theorem State.blockReset_trigOut (s : State) : (s.blockReset).trigOut = false := rfl
@[simp] theorem State.blockReset_ticks (s : State) :
    (s.blockReset).ticks = (Config.resetDraw s.draws).ticks := rfl
@[simp] theorem State.blockReset_outstanding (s : State) : (s.blockReset).outstanding = none := rfl
@[simp] theorem State.blockReset_orphans (s : State) :
    (s.blockReset).orphans = s.orphans ++ s.outstanding.toList := rfl
@[simp] theorem State.blockReset_trace (s : State) : (s.blockReset).trace = s.trace := rfl
@[simp] theorem State.blockReset_host (s : State) : (s.blockReset).host = s.host := rfl
@[simp] theorem State.blockReset_par (s : State) : (s.blockReset).par = s.par := rfl
@[simp] theorem State.blockReset_events (s : State) : (s.blockReset).events = s.events := rfl
@[simp] theorem State.blockReset_draws (s : State) : (s.blockReset).draws = s.draws + 1 := rfl

@[simp] theorem State.blockReset_bt_state (s : State) : s.blockReset.bt.state = .idle := rfl
@[simp] theorem State.blockReset_bt_held (s : State) : s.blockReset.bt.held = false := rfl
@[simp] theorem State.blockReset_pwt_state (s : State) : s.blockReset.pwt.state = .idle := rfl

/-! ### STATUS updates -/

@[simp] theorem Status.setIllegal_btBusy (f : Status) : (f.setIllegal).btBusy = f.btBusy := rfl
@[simp] theorem Status.setIllegal_btDone (f : Status) : (f.setIllegal).btDone = f.btDone := rfl
@[simp] theorem Status.setIllegal_btErr (f : Status) : (f.setIllegal).btErr = f.btErr := rfl
@[simp] theorem Status.setIllegal_btErrCode (f : Status) : (f.setIllegal).btErrCode = f.btErrCode := rfl
@[simp] theorem Status.setIllegal_btErrStep (f : Status) : (f.setIllegal).btErrStep = f.btErrStep := rfl
@[simp] theorem Status.setIllegal_pwtBusy (f : Status) : (f.setIllegal).pwtBusy = f.pwtBusy := rfl
@[simp] theorem Status.setIllegal_pwtDone (f : Status) : (f.setIllegal).pwtDone = f.pwtDone := rfl
@[simp] theorem Status.setIllegal_pwtErr (f : Status) : (f.setIllegal).pwtErr = f.pwtErr := rfl
@[simp] theorem Status.setIllegal_pwtErrPhase (f : Status) : (f.setIllegal).pwtErrPhase = f.pwtErrPhase := rfl
@[simp] theorem Status.setIllegal_cmdIllegal (f : Status) : (f.setIllegal).cmdIllegal = true := rfl
@[simp] theorem Status.setIllegal_cmdReject (f : Status) : (f.setIllegal).cmdReject = f.cmdReject := rfl

@[simp] theorem Status.setReject_btBusy (f : Status) : (f.setReject).btBusy = f.btBusy := rfl
@[simp] theorem Status.setReject_btDone (f : Status) : (f.setReject).btDone = f.btDone := rfl
@[simp] theorem Status.setReject_btErr (f : Status) : (f.setReject).btErr = f.btErr := rfl
@[simp] theorem Status.setReject_btErrCode (f : Status) : (f.setReject).btErrCode = f.btErrCode := rfl
@[simp] theorem Status.setReject_btErrStep (f : Status) : (f.setReject).btErrStep = f.btErrStep := rfl
@[simp] theorem Status.setReject_pwtBusy (f : Status) : (f.setReject).pwtBusy = f.pwtBusy := rfl
@[simp] theorem Status.setReject_pwtDone (f : Status) : (f.setReject).pwtDone = f.pwtDone := rfl
@[simp] theorem Status.setReject_pwtErr (f : Status) : (f.setReject).pwtErr = f.pwtErr := rfl
@[simp] theorem Status.setReject_pwtErrPhase (f : Status) : (f.setReject).pwtErrPhase = f.pwtErrPhase := rfl
@[simp] theorem Status.setReject_cmdIllegal (f : Status) : (f.setReject).cmdIllegal = f.cmdIllegal := rfl
@[simp] theorem Status.setReject_cmdReject (f : Status) : (f.setReject).cmdReject = true := rfl

@[simp] theorem Status.btAccept_btBusy (f : Status) : (f.btAccept).btBusy = true := rfl
@[simp] theorem Status.btAccept_btDone (f : Status) : (f.btAccept).btDone = false := rfl
@[simp] theorem Status.btAccept_btErr (f : Status) : (f.btAccept).btErr = false := rfl
@[simp] theorem Status.btAccept_btErrCode (f : Status) : (f.btAccept).btErrCode = 0b00#2 := rfl
@[simp] theorem Status.btAccept_btErrStep (f : Status) : (f.btAccept).btErrStep = 0b00#2 := rfl
@[simp] theorem Status.btAccept_pwtBusy (f : Status) : (f.btAccept).pwtBusy = f.pwtBusy := rfl
@[simp] theorem Status.btAccept_pwtDone (f : Status) : (f.btAccept).pwtDone = f.pwtDone := rfl
@[simp] theorem Status.btAccept_pwtErr (f : Status) : (f.btAccept).pwtErr = f.pwtErr := rfl
@[simp] theorem Status.btAccept_pwtErrPhase (f : Status) : (f.btAccept).pwtErrPhase = f.pwtErrPhase := rfl
@[simp] theorem Status.btAccept_cmdIllegal (f : Status) : (f.btAccept).cmdIllegal = f.cmdIllegal := rfl
@[simp] theorem Status.btAccept_cmdReject (f : Status) : (f.btAccept).cmdReject = f.cmdReject := rfl

@[simp] theorem Status.btFinishOk_btBusy (f : Status) : (f.btFinishOk).btBusy = false := rfl
@[simp] theorem Status.btFinishOk_btDone (f : Status) : (f.btFinishOk).btDone = true := rfl
@[simp] theorem Status.btFinishOk_btErr (f : Status) : (f.btFinishOk).btErr = f.btErr := rfl
@[simp] theorem Status.btFinishOk_btErrCode (f : Status) : (f.btFinishOk).btErrCode = f.btErrCode := rfl
@[simp] theorem Status.btFinishOk_btErrStep (f : Status) : (f.btFinishOk).btErrStep = f.btErrStep := rfl
@[simp] theorem Status.btFinishOk_pwtBusy (f : Status) : (f.btFinishOk).pwtBusy = f.pwtBusy := rfl
@[simp] theorem Status.btFinishOk_pwtDone (f : Status) : (f.btFinishOk).pwtDone = f.pwtDone := rfl
@[simp] theorem Status.btFinishOk_pwtErr (f : Status) : (f.btFinishOk).pwtErr = f.pwtErr := rfl
@[simp] theorem Status.btFinishOk_pwtErrPhase (f : Status) : (f.btFinishOk).pwtErrPhase = f.pwtErrPhase := rfl
@[simp] theorem Status.btFinishOk_cmdIllegal (f : Status) : (f.btFinishOk).cmdIllegal = f.cmdIllegal := rfl
@[simp] theorem Status.btFinishOk_cmdReject (f : Status) : (f.btFinishOk).cmdReject = f.cmdReject := rfl

@[simp] theorem Status.btFinishErr_btBusy (f : Status) (e : BusErrorKind) (st : BusStep) :
    (f.btFinishErr e st).btBusy = false := rfl
@[simp] theorem Status.btFinishErr_btDone (f : Status) (e : BusErrorKind) (st : BusStep) :
    (f.btFinishErr e st).btDone = true := rfl
@[simp] theorem Status.btFinishErr_btErr (f : Status) (e : BusErrorKind) (st : BusStep) :
    (f.btFinishErr e st).btErr = true := rfl
@[simp] theorem Status.btFinishErr_btErrCode (f : Status) (e : BusErrorKind) (st : BusStep) :
    (f.btFinishErr e st).btErrCode = errCode e := rfl
@[simp] theorem Status.btFinishErr_btErrStep (f : Status) (e : BusErrorKind) (st : BusStep) :
    (f.btFinishErr e st).btErrStep = errStep st := rfl
@[simp] theorem Status.btFinishErr_pwtBusy (f : Status) (e : BusErrorKind) (st : BusStep) :
    (f.btFinishErr e st).pwtBusy = f.pwtBusy := rfl
@[simp] theorem Status.btFinishErr_pwtDone (f : Status) (e : BusErrorKind) (st : BusStep) :
    (f.btFinishErr e st).pwtDone = f.pwtDone := rfl
@[simp] theorem Status.btFinishErr_pwtErr (f : Status) (e : BusErrorKind) (st : BusStep) :
    (f.btFinishErr e st).pwtErr = f.pwtErr := rfl
@[simp] theorem Status.btFinishErr_pwtErrPhase (f : Status) (e : BusErrorKind) (st : BusStep) :
    (f.btFinishErr e st).pwtErrPhase = f.pwtErrPhase := rfl
@[simp] theorem Status.btFinishErr_cmdIllegal (f : Status) (e : BusErrorKind) (st : BusStep) :
    (f.btFinishErr e st).cmdIllegal = f.cmdIllegal := rfl
@[simp] theorem Status.btFinishErr_cmdReject (f : Status) (e : BusErrorKind) (st : BusStep) :
    (f.btFinishErr e st).cmdReject = f.cmdReject := rfl

@[simp] theorem Status.pwtAccept_btBusy (f : Status) : (f.pwtAccept).btBusy = f.btBusy := rfl
@[simp] theorem Status.pwtAccept_btDone (f : Status) : (f.pwtAccept).btDone = f.btDone := rfl
@[simp] theorem Status.pwtAccept_btErr (f : Status) : (f.pwtAccept).btErr = f.btErr := rfl
@[simp] theorem Status.pwtAccept_btErrCode (f : Status) : (f.pwtAccept).btErrCode = f.btErrCode := rfl
@[simp] theorem Status.pwtAccept_btErrStep (f : Status) : (f.pwtAccept).btErrStep = f.btErrStep := rfl
@[simp] theorem Status.pwtAccept_pwtBusy (f : Status) : (f.pwtAccept).pwtBusy = true := rfl
@[simp] theorem Status.pwtAccept_pwtDone (f : Status) : (f.pwtAccept).pwtDone = false := rfl
@[simp] theorem Status.pwtAccept_pwtErr (f : Status) : (f.pwtAccept).pwtErr = false := rfl
@[simp] theorem Status.pwtAccept_pwtErrPhase (f : Status) : (f.pwtAccept).pwtErrPhase = 0b00#2 := rfl
@[simp] theorem Status.pwtAccept_cmdIllegal (f : Status) : (f.pwtAccept).cmdIllegal = f.cmdIllegal := rfl
@[simp] theorem Status.pwtAccept_cmdReject (f : Status) : (f.pwtAccept).cmdReject = f.cmdReject := rfl

@[simp] theorem Status.pwtFinishOk_btBusy (f : Status) : (f.pwtFinishOk).btBusy = f.btBusy := rfl
@[simp] theorem Status.pwtFinishOk_btDone (f : Status) : (f.pwtFinishOk).btDone = f.btDone := rfl
@[simp] theorem Status.pwtFinishOk_btErr (f : Status) : (f.pwtFinishOk).btErr = f.btErr := rfl
@[simp] theorem Status.pwtFinishOk_btErrCode (f : Status) : (f.pwtFinishOk).btErrCode = f.btErrCode := rfl
@[simp] theorem Status.pwtFinishOk_btErrStep (f : Status) : (f.pwtFinishOk).btErrStep = f.btErrStep := rfl
@[simp] theorem Status.pwtFinishOk_pwtBusy (f : Status) : (f.pwtFinishOk).pwtBusy = false := rfl
@[simp] theorem Status.pwtFinishOk_pwtDone (f : Status) : (f.pwtFinishOk).pwtDone = true := rfl
@[simp] theorem Status.pwtFinishOk_pwtErr (f : Status) : (f.pwtFinishOk).pwtErr = f.pwtErr := rfl
@[simp] theorem Status.pwtFinishOk_pwtErrPhase (f : Status) :
    (f.pwtFinishOk).pwtErrPhase = f.pwtErrPhase := rfl
@[simp] theorem Status.pwtFinishOk_cmdIllegal (f : Status) : (f.pwtFinishOk).cmdIllegal = f.cmdIllegal := rfl
@[simp] theorem Status.pwtFinishOk_cmdReject (f : Status) : (f.pwtFinishOk).cmdReject = f.cmdReject := rfl

@[simp] theorem Status.pwtFinishErr_btBusy (f : Status) (ph : WaitPhase) :
    (f.pwtFinishErr ph).btBusy = f.btBusy := rfl
@[simp] theorem Status.pwtFinishErr_btDone (f : Status) (ph : WaitPhase) :
    (f.pwtFinishErr ph).btDone = f.btDone := rfl
@[simp] theorem Status.pwtFinishErr_btErr (f : Status) (ph : WaitPhase) :
    (f.pwtFinishErr ph).btErr = f.btErr := rfl
@[simp] theorem Status.pwtFinishErr_btErrCode (f : Status) (ph : WaitPhase) :
    (f.pwtFinishErr ph).btErrCode = f.btErrCode := rfl
@[simp] theorem Status.pwtFinishErr_btErrStep (f : Status) (ph : WaitPhase) :
    (f.pwtFinishErr ph).btErrStep = f.btErrStep := rfl
@[simp] theorem Status.pwtFinishErr_pwtBusy (f : Status) (ph : WaitPhase) :
    (f.pwtFinishErr ph).pwtBusy = false := rfl
@[simp] theorem Status.pwtFinishErr_pwtDone (f : Status) (ph : WaitPhase) :
    (f.pwtFinishErr ph).pwtDone = true := rfl
@[simp] theorem Status.pwtFinishErr_pwtErr (f : Status) (ph : WaitPhase) :
    (f.pwtFinishErr ph).pwtErr = true := rfl
@[simp] theorem Status.pwtFinishErr_pwtErrPhase (f : Status) (ph : WaitPhase) :
    (f.pwtFinishErr ph).pwtErrPhase = errPhase ph := rfl
@[simp] theorem Status.pwtFinishErr_cmdIllegal (f : Status) (ph : WaitPhase) :
    (f.pwtFinishErr ph).cmdIllegal = f.cmdIllegal := rfl
@[simp] theorem Status.pwtFinishErr_cmdReject (f : Status) (ph : WaitPhase) :
    (f.pwtFinishErr ph).cmdReject = f.cmdReject := rfl

@[simp] theorem Status.writeOneToClear_btBusy (f : Status) (v : Word) :
    (f.writeOneToClear v).btBusy = f.btBusy := rfl
@[simp] theorem Status.writeOneToClear_btDone (f : Status) (v : Word) :
    (f.writeOneToClear v).btDone = (f.btDone && !v.getLsbD 1) := rfl
@[simp] theorem Status.writeOneToClear_btErr (f : Status) (v : Word) :
    (f.writeOneToClear v).btErr = (f.btErr && !v.getLsbD 2) := rfl
@[simp] theorem Status.writeOneToClear_btErrCode (f : Status) (v : Word) :
    (f.writeOneToClear v).btErrCode = f.btErrCode := rfl
@[simp] theorem Status.writeOneToClear_btErrStep (f : Status) (v : Word) :
    (f.writeOneToClear v).btErrStep = f.btErrStep := rfl
@[simp] theorem Status.writeOneToClear_pwtBusy (f : Status) (v : Word) :
    (f.writeOneToClear v).pwtBusy = f.pwtBusy := rfl
@[simp] theorem Status.writeOneToClear_pwtDone (f : Status) (v : Word) :
    (f.writeOneToClear v).pwtDone = (f.pwtDone && !v.getLsbD 9) := rfl
@[simp] theorem Status.writeOneToClear_pwtErr (f : Status) (v : Word) :
    (f.writeOneToClear v).pwtErr = (f.pwtErr && !v.getLsbD 10) := rfl
@[simp] theorem Status.writeOneToClear_pwtErrPhase (f : Status) (v : Word) :
    (f.writeOneToClear v).pwtErrPhase = f.pwtErrPhase := rfl
@[simp] theorem Status.writeOneToClear_cmdIllegal (f : Status) (v : Word) :
    (f.writeOneToClear v).cmdIllegal = (f.cmdIllegal && !v.getLsbD 16) := rfl
@[simp] theorem Status.writeOneToClear_cmdReject (f : Status) (v : Word) :
    (f.writeOneToClear v).cmdReject = (f.cmdReject && !v.getLsbD 17) := rfl

end Sys2Proof.Machine
end

