-- ==== Sys2Proof/Laws/Words.lean ====
section
/-! SUPPORT. The bits of the words: each field of an encoded command, and STATUS's word after each of its
updates. -/

namespace Sys2Proof.Laws

open Sys2Proof.Machine

/-! ## The fields of an encoded command -/

theorem opField_readReg (dev : DevAddr) (sub : Byte) :
    opField (encode (.readReg dev sub)) = 0x1#4 := by
  apply BitVec.eq_of_getLsbD_eq
  intro i hi
  simp only [opField, encode, placed]
  interval_cases i <;> simp

theorem devField_readReg (dev : DevAddr) (sub : Byte) :
    devField (encode (.readReg dev sub)) = dev := by
  apply BitVec.eq_of_getLsbD_eq
  intro i hi
  simp only [devField, encode, placed]
  interval_cases i <;> simp

theorem subField_readReg (dev : DevAddr) (sub : Byte) :
    subField (encode (.readReg dev sub)) = sub := by
  apply BitVec.eq_of_getLsbD_eq
  intro i hi
  simp only [subField, encode, placed]
  interval_cases i <;> simp

theorem reservedRR_readReg (dev : DevAddr) (sub : Byte) :
    reservedRR (encode (.readReg dev sub)) = false := by
  simp only [reservedRR, Bool.or_eq_false_iff, bne_eq_false_iff_eq]
  constructor <;>
  · apply BitVec.eq_of_getLsbD_eq
    intro i hi
    simp only [encode, placed]
    interval_cases i <;> simp

theorem opField_writeReg (dev : DevAddr) (sub val : Byte) :
    opField (encode (.writeReg dev sub val)) = 0x2#4 := by
  apply BitVec.eq_of_getLsbD_eq
  intro i hi
  simp only [opField, encode, placed]
  interval_cases i <;> simp

theorem devField_writeReg (dev : DevAddr) (sub val : Byte) :
    devField (encode (.writeReg dev sub val)) = dev := by
  apply BitVec.eq_of_getLsbD_eq
  intro i hi
  simp only [devField, encode, placed]
  interval_cases i <;> simp

theorem subField_writeReg (dev : DevAddr) (sub val : Byte) :
    subField (encode (.writeReg dev sub val)) = sub := by
  apply BitVec.eq_of_getLsbD_eq
  intro i hi
  simp only [subField, encode, placed]
  interval_cases i <;> simp

theorem valField_writeReg (dev : DevAddr) (sub val : Byte) :
    valField (encode (.writeReg dev sub val)) = val := by
  apply BitVec.eq_of_getLsbD_eq
  intro i hi
  simp only [valField, encode, placed]
  interval_cases i <;> simp

theorem reservedWR_writeReg (dev : DevAddr) (sub val : Byte) :
    reservedWR (encode (.writeReg dev sub val)) = false := by
  simp only [reservedWR, Bool.or_eq_false_iff, bne_eq_false_iff_eq]
  constructor <;>
  · apply BitVec.eq_of_getLsbD_eq
    intro i hi
    simp only [encode, placed]
    interval_cases i <;> simp

theorem opField_writeBlock (dev : DevAddr) (len : BitVec 5) :
    opField (encode (.writeBlock dev len)) = 0x3#4 := by
  apply BitVec.eq_of_getLsbD_eq
  intro i hi
  simp only [opField, encode, placed]
  interval_cases i <;> simp

theorem devField_writeBlock (dev : DevAddr) (len : BitVec 5) :
    devField (encode (.writeBlock dev len)) = dev := by
  apply BitVec.eq_of_getLsbD_eq
  intro i hi
  simp only [devField, encode, placed]
  interval_cases i <;> simp

theorem lenField_writeBlock (dev : DevAddr) (len : BitVec 5) :
    lenField (encode (.writeBlock dev len)) = len := by
  apply BitVec.eq_of_getLsbD_eq
  intro i hi
  simp only [lenField, encode, placed]
  interval_cases i <;> simp

theorem reservedWB_writeBlock (dev : DevAddr) (len : BitVec 5) :
    reservedWB (encode (.writeBlock dev len)) = false := by
  simp only [reservedWB, Bool.or_eq_false_iff, bne_eq_false_iff_eq]
  constructor <;>
  · apply BitVec.eq_of_getLsbD_eq
    intro i hi
    simp only [encode, placed]
    interval_cases i <;> simp

/-! ## STATUS as a word -/

/-- STATUS bits 0 to 17 of R26, lowest first. -/
def statusBits (f : Status) : List Bool :=
  [f.btBusy, f.btDone, f.btErr, f.btErrCode.getLsbD 0, f.btErrCode.getLsbD 1,
   f.btErrStep.getLsbD 0, f.btErrStep.getLsbD 1, false,
   f.pwtBusy, f.pwtDone, f.pwtErr, f.pwtErrPhase.getLsbD 0, f.pwtErrPhase.getLsbD 1,
   false, false, false, f.cmdIllegal, f.cmdReject]

/-- Each bit of STATUS, the reserved ones 0 (R26). -/
theorem word_getLsbD (f : Status) {i : Nat} (hi : i < 32) :
    f.word.getLsbD i = (statusBits f).getD i false := by
  simp only [Status.word, flagBit, placed, statusBits]
  interval_cases i <;> simp

/-- Two words are equal when their 32 bits are. -/
theorem word_ext {a b : Word} (h : ∀ i < 32, a.getLsbD i = b.getLsbD i) : a = b :=
  BitVec.eq_of_getLsbD_eq h

theorem word_btAccept (f : Status) :
    (f.btAccept).word = f.word &&& ~~~0x0000007F#32 ||| 0x00000001#32 := by
  apply word_ext
  intro i hi
  simp only [BitVec.getLsbD_or, BitVec.getLsbD_and, BitVec.getLsbD_not, word_getLsbD _ hi, statusBits]
  interval_cases i <;> simp

theorem word_pwtAccept (f : Status) :
    (f.pwtAccept).word = f.word &&& ~~~0x00001F00#32 ||| 0x00000100#32 := by
  apply word_ext
  intro i hi
  simp only [BitVec.getLsbD_or, BitVec.getLsbD_and, BitVec.getLsbD_not, word_getLsbD _ hi, statusBits]
  interval_cases i <;> simp

theorem word_btFinishOk (f : Status) :
    (f.btFinishOk).word = f.word &&& ~~~0x00000003#32 ||| 0x00000002#32 := by
  apply word_ext
  intro i hi
  simp only [BitVec.getLsbD_or, BitVec.getLsbD_and, BitVec.getLsbD_not, word_getLsbD _ hi, statusBits]
  interval_cases i <;> simp

theorem word_pwtFinishOk (f : Status) :
    (f.pwtFinishOk).word = f.word &&& ~~~0x00000300#32 ||| 0x00000200#32 := by
  apply word_ext
  intro i hi
  simp only [BitVec.getLsbD_or, BitVec.getLsbD_and, BitVec.getLsbD_not, word_getLsbD _ hi, statusBits]
  interval_cases i <;> simp

theorem word_setIllegal (f : Status) :
    (f.setIllegal).word = f.word ||| 0x00010000#32 := by
  apply word_ext
  intro i hi
  simp only [BitVec.getLsbD_or, word_getLsbD _ hi, statusBits]
  interval_cases i <;> simp

theorem word_setReject (f : Status) :
    (f.setReject).word = f.word ||| 0x00020000#32 := by
  apply word_ext
  intro i hi
  simp only [BitVec.getLsbD_or, word_getLsbD _ hi, statusBits]
  interval_cases i <;> simp

theorem word_writeOneToClear (f : Status) (v : Word) :
    (f.writeOneToClear v).word = f.word &&& ~~~(v &&& 0x00030606#32) := by
  apply word_ext
  intro i hi
  simp only [BitVec.getLsbD_and, BitVec.getLsbD_not, word_getLsbD _ hi, statusBits]
  interval_cases i <;> simp

theorem word_btFinishErr_noAck_first (f : Status) :
    (f.btFinishErr .noAck .first).word = f.word &&& ~~~0x0000007F#32 ||| 0x0000002E#32 := by
  apply word_ext
  intro i hi
  simp only [BitVec.getLsbD_or, BitVec.getLsbD_and, BitVec.getLsbD_not, word_getLsbD _ hi, statusBits]
  interval_cases i <;> simp [errCode, errStep]

theorem word_btFinishErr_noAck_second (f : Status) :
    (f.btFinishErr .noAck .second).word = f.word &&& ~~~0x0000007F#32 ||| 0x0000004E#32 := by
  apply word_ext
  intro i hi
  simp only [BitVec.getLsbD_or, BitVec.getLsbD_and, BitVec.getLsbD_not, word_getLsbD _ hi, statusBits]
  interval_cases i <;> simp [errCode, errStep]

theorem word_btFinishErr_timeout_first (f : Status) :
    (f.btFinishErr .timeout .first).word = f.word &&& ~~~0x0000007F#32 ||| 0x00000036#32 := by
  apply word_ext
  intro i hi
  simp only [BitVec.getLsbD_or, BitVec.getLsbD_and, BitVec.getLsbD_not, word_getLsbD _ hi, statusBits]
  interval_cases i <;> simp [errCode, errStep]

theorem word_btFinishErr_timeout_second (f : Status) :
    (f.btFinishErr .timeout .second).word = f.word &&& ~~~0x0000007F#32 ||| 0x00000056#32 := by
  apply word_ext
  intro i hi
  simp only [BitVec.getLsbD_or, BitVec.getLsbD_and, BitVec.getLsbD_not, word_getLsbD _ hi, statusBits]
  interval_cases i <;> simp [errCode, errStep]

theorem word_pwtFinishErr_rise (f : Status) :
    (f.pwtFinishErr .rise).word = f.word &&& ~~~0x00001F00#32 ||| 0x00000E00#32 := by
  apply word_ext
  intro i hi
  simp only [BitVec.getLsbD_or, BitVec.getLsbD_and, BitVec.getLsbD_not, word_getLsbD _ hi, statusBits]
  interval_cases i <;> simp [errPhase]

theorem word_pwtFinishErr_fall (f : Status) :
    (f.pwtFinishErr .fall).word = f.word &&& ~~~0x00001F00#32 ||| 0x00001600#32 := by
  apply word_ext
  intro i hi
  simp only [BitVec.getLsbD_or, BitVec.getLsbD_and, BitVec.getLsbD_not, word_getLsbD _ hi, statusBits]
  interval_cases i <;> simp [errPhase]

end Sys2Proof.Laws
end

