-- ==== Sys2Proof/Laws/PerInstr.lean ====
section
/-! SUPPORT. One lemma per command about its word: the row of the opcode table its word belongs to. -/

namespace Sys2Proof.Laws.TableRow

/-- Where the command stands in `opcodeTable`. -/
def rowOf : Instr → Fin 4
  | .readReg _ _ => 0
  | .writeReg _ _ _ => 1
  | .writeBlock _ _ => 2
  | .pulseMeasure => 3

/-- The word of a well-formed command belongs to the command's row of the opcode table (R102 to R105,
R112). -/
def Statement (i : Instr) : Prop :=
  i.WellFormed → (opcodeTable[(rowOf i).val]?.any fun r => r.accepts (encode i)) = true

/-- A word's bits under a mask, bit by bit. -/
theorem masked_eq {w m v : Word} (h : ∀ i < 32, (w.getLsbD i && m.getLsbD i) = v.getLsbD i) :
    (w &&& m) = v :=
  word_ext fun i hi => by rw [BitVec.getLsbD_and, h i hi]

theorem readReg (dev : DevAddr) (sub : Byte) : Statement (.readReg dev sub) := by
  intro _
  have h : (encode (.readReg dev sub) &&& 0xFFF0080F#32) = 0x00000001#32 := masked_eq fun i hi => by
    simp only [encode, placed]
    interval_cases i <;> simp
  simp [rowOf, opcodeTable, OpcodeRow.accepts, h]

theorem writeReg (dev : DevAddr) (sub val : Byte) : Statement (.writeReg dev sub val) := by
  intro _
  have h : (encode (.writeReg dev sub val) &&& 0xF000080F#32) = 0x00000002#32 := masked_eq fun i hi => by
    simp only [encode, placed]
    interval_cases i <;> simp
  simp [rowOf, opcodeTable, OpcodeRow.accepts, h]

theorem writeBlock (dev : DevAddr) (len : BitVec 5) : Statement (.writeBlock dev len) := by
  intro hw
  have h : (encode (.writeBlock dev len) &&& 0xFFFE080F#32) = 0x00000003#32 := masked_eq fun i hi => by
    simp only [encode, placed]
    interval_cases i <;> simp
  have hl : 1 ≤ len.toNat ∧ len.toNat ≤ 16 := by simpa [Instr.WellFormed, Instr.wellFormed] using hw
  simp [rowOf, opcodeTable, OpcodeRow.accepts, h, lenField_writeBlock, hl]

theorem pulseMeasure : Statement .pulseMeasure := fun _ => by decide

end Sys2Proof.Laws.TableRow
end

