-- ==== Sys2Proof/Laws/Sequencers.lean ====
section
/-! SUPPORT. What one answer does in each state of the BT and what one tick does in each phase of the PWT,
as the explicit next state. -/

namespace Sys2Proof.Laws

open Sys2Proof.Machine

/-- The address phase answered Ok: the bus is held and the data phase is outstanding (R134). -/
theorem btAnswer_addr_ok {s : State} (h : s.bt.state = .addr) (b : Byte) :
    s.btAnswer (.ok b) = { s with
      trace := (s.record (.ok b)).trace
      outstanding := some (dataPhase s.bt.dev)
      bt := { s.bt with state := .data, held := true } } := by
  simp only [State.btAnswer, h]
  rfl

/-- The address phase answered with an error: the operation ends at step 1 (R134, R139). -/
theorem btAnswer_addr_error {s : State} (h : s.bt.state = .addr) (k : BusErrorKind) :
    s.btAnswer (.error k) = { s with
      trace := (s.record (.error k)).trace
      outstanding := none
      bt := { s.bt with state := .idle, held := false }
      status := s.status.btFinishErr k .first } := by
  simp only [State.btAnswer, h]
  rfl

/-- The data phase answered Ok: the byte is in RDATA and the operation ends (R134). -/
theorem btAnswer_data_ok {s : State} (h : s.bt.state = .data) (b : Byte) :
    s.btAnswer (.ok b) = { s with
      trace := (s.record (.ok b)).trace
      outstanding := none
      rdata := b.setWidth 32
      bt := { s.bt with state := .idle, held := false }
      status := s.status.btFinishOk } := by
  simp only [State.btAnswer, h]
  rfl

/-- The data phase answered with an error: the operation ends at step 2 (R134, R143). -/
theorem btAnswer_data_error {s : State} (h : s.bt.state = .data) (k : BusErrorKind) :
    s.btAnswer (.error k) = { s with
      trace := (s.record (.error k)).trace
      outstanding := none
      bt := { s.bt with state := .idle, held := false }
      status := s.status.btFinishErr k .second } := by
  simp only [State.btAnswer, h]
  rfl

/-- The single write answered Ok: the operation ends (R135, R136). -/
theorem btAnswer_write_ok {s : State} (h : s.bt.state = .write) (b : Byte) :
    s.btAnswer (.ok b) = { s with
      trace := (s.record (.ok b)).trace
      outstanding := none
      bt := { s.bt with state := .idle }
      status := s.status.btFinishOk } := by
  simp only [State.btAnswer, h]
  rfl

/-- The single write answered with an error: the operation ends at step 1 (R135, R136). -/
theorem btAnswer_write_error {s : State} (h : s.bt.state = .write) (k : BusErrorKind) :
    s.btAnswer (.error k) = { s with
      trace := (s.record (.error k)).trace
      outstanding := none
      bt := { s.bt with state := .idle }
      status := s.status.btFinishErr k .first } := by
  simp only [State.btAnswer, h]
  rfl

/-- TRIG_LOW with more than one tick to go (R172). -/
theorem tick_trigLow_counts {s : State} (h : s.pwt.state = .trigLow) (hr : s.pwt.r - 1#32 ≠ 0#32) (e : Level) :
    s.tick e = { s with
      pwt := { s.pwt with r := s.pwt.r - 1#32 }
      ticks := s.ticks + 1#32 } := by
  simp only [State.tick, State.pwtTick, h, trigLowTick, State.pwtCountDown_pwt, if_neg hr]
  rfl

/-- The last tick of TRIG_LOW: the trigger rises (R172). -/
theorem tick_trigLow_ends {s : State} (h : s.pwt.state = .trigLow) (hr : s.pwt.r - 1#32 = 0#32) (e : Level) :
    s.tick e = { s with
      trigOut := true
      pwt := { s.pwt with state := .trigHigh, r := s.par.trigHigh }
      ticks := s.ticks + 1#32 } := by
  simp only [State.tick, State.pwtTick, h, trigLowTick, State.pwtCountDown_pwt, if_pos hr]
  rfl

/-- TRIG_HIGH with more than one tick to go (R172). -/
theorem tick_trigHigh_counts {s : State} (h : s.pwt.state = .trigHigh) (hr : s.pwt.r - 1#32 ≠ 0#32)
    (e : Level) :
    s.tick e = { s with
      pwt := { s.pwt with r := s.pwt.r - 1#32 }
      ticks := s.ticks + 1#32 } := by
  simp only [State.tick, State.pwtTick, h, trigHighTick, State.pwtCountDown_pwt, if_neg hr]
  rfl

/-- The last tick of TRIG_HIGH: the trigger falls and the rise wait begins (R172). -/
theorem tick_trigHigh_ends {s : State} (h : s.pwt.state = .trigHigh) (hr : s.pwt.r - 1#32 = 0#32)
    (e : Level) :
    s.tick e = { s with
      trigOut := false
      pwt := { s.pwt with state := .waitRise, r := s.pwt.timeout }
      ticks := s.ticks + 1#32 } := by
  simp only [State.tick, State.pwtTick, h, trigHighTick, State.pwtCountDown_pwt, if_pos hr]
  rfl

/-- The rise wait samples low (R172, R174). -/
theorem tick_waitRise_low {s : State} (h : s.pwt.state = .waitRise) (hr : s.pwt.r ≠ 0#32) :
    s.tick false = { s with
      pwt := { s.pwt with r := s.pwt.r - 1#32 }
      ticks := s.ticks + 1#32 } := by
  have ht : s.pwtTick s.ticks false = s.pwtCountDown := by
    simp only [State.pwtTick, h, waitRiseTick, if_neg hr]; rfl
  simp only [State.tick, ht]
  rfl

/-- The rise wait samples high: the rise is captured (R172, R174). -/
theorem tick_waitRise_high {s : State} (h : s.pwt.state = .waitRise) (hr : s.pwt.r ≠ 0#32) :
    s.tick true = { s with
      pwtStart := s.ticks
      pwt := { s.pwt with state := .waitFall, r := s.pwt.timeout }
      ticks := s.ticks + 1#32 } := by
  have ht : s.pwtTick s.ticks true = { s with pwtStart := s.ticks }.pwtEnter .waitFall s.pwt.timeout := by
    simp only [State.pwtTick, h, waitRiseTick, if_neg hr]; rfl
  simp only [State.tick, ht]
  rfl

/-- The fall wait samples high (R172, R175). -/
theorem tick_waitFall_high {s : State} (h : s.pwt.state = .waitFall) (hr : s.pwt.r ≠ 0#32) :
    s.tick true = { s with
      pwt := { s.pwt with r := s.pwt.r - 1#32 }
      ticks := s.ticks + 1#32 } := by
  have ht : s.pwtTick s.ticks true = s.pwtCountDown := by
    simp only [State.pwtTick, h, waitFallTick, if_neg hr]; rfl
  simp only [State.tick, ht]
  rfl

/-- The fall wait samples low: the fall is captured and the measurement ends (R172, R175, R176). -/
theorem tick_waitFall_low {s : State} (h : s.pwt.state = .waitFall) (hr : s.pwt.r ≠ 0#32) :
    s.tick false = { s with
      pwtEnd := s.ticks
      pwtDuration := s.ticks - s.pwtStart
      pwt := { s.pwt with state := .idle }
      status := s.status.pwtFinishOk
      ticks := s.ticks + 1#32 } := by
  have ht : s.pwtTick s.ticks false = { s with pwtEnd := s.ticks, pwtDuration := s.ticks - s.pwtStart }.pwtFinish := by
    simp only [State.pwtTick, h, waitFallTick, if_neg hr]; rfl
  simp only [State.tick, ht]
  rfl

end Sys2Proof.Laws
end

