-- ==== Sys2Proof/Laws/Steps.lean ====
section
/-! SUPPORT. What each operation can do, said once: the acceptance of a command, a register write, the
host's turn, and a step. Later proofs cite these instead of unfolding the step. -/

namespace Sys2Proof.Laws

open Sys2Proof.Machine Sys2Proof.Safety

/-! ## Same block -/

/-- The form to take a `SameBlock` hypothesis apart with: `t` is `s` with another host and other queues. -/
theorem sameBlock_iff {s t : State} :
    SameBlock s t ↔ ∃ host events draws, t = { s with host := host, events := events, draws := draws } := by
  constructor
  · intro h
    exact ⟨t.host, t.events, t.draws, h⟩
  · rintro ⟨host, events, draws, rfl⟩
    rfl

theorem sameBlock_refl (s : State) : SameBlock s s := rfl

theorem sameBlock_trans {s t u : State} (h : SameBlock s t) (k : SameBlock t u) : SameBlock s u := by
  obtain ⟨_, _, _, rfl⟩ := sameBlock_iff.1 h
  obtain ⟨_, _, _, rfl⟩ := sameBlock_iff.1 k
  rfl

theorem sameBlock_takeEvent (s : State) : SameBlock s s.takeEvent.2 := by
  unfold State.takeEvent
  split <;> rfl

theorem sameBlock_takeOp (s : State) : SameBlock s s.takeOp.2 := by
  unfold State.takeOp
  split <;> rfl

theorem sameBlock_returnRead (s : State) (v : Word) : SameBlock s (s.returnRead v) := rfl

theorem sameBlock_putBack (s : State) (op : HostOp) : SameBlock s (s.putBack op) := rfl

theorem sameBlock_setCall (s : State) (f : Option CallFrame) : SameBlock s (s.setCall f) := rfl

theorem sameBlock_callReturn (s : State) (d : DriverState) (r : CallResult) :
    SameBlock s (s.callReturn d r) := rfl

theorem sameBlock_callNext (s : State) (c : DriverCall) (todo : List Instr) (got : List Word) :
    SameBlock s (s.callNext c todo got) := by
  unfold State.callNext
  split <;> rfl

/-! ## Commands -/

/-- A command for an idle unit starts. -/
theorem accept_idle {s : State} {u : BlockUnit} (f : State → State) (h : s.busy u = false) :
    s.accept u f = f s := by
  simp [State.accept, h]

/-- A command for a busy unit is rejected. -/
theorem accept_busy {s : State} {u : BlockUnit} (f : State → State) (h : s.busy u = true) :
    s.accept u f = s.rejectBusy := by
  simp [State.accept, h]

/-- The state a well-formed command leaves where its unit is idle. -/
def accepted (i : Instr) (s : State) : State :=
  match i with
  | .readReg dev sub =>
    { s with
      bt := { s.bt with state := .addr, dev := dev, sub := sub }
      outstanding := some (addressPhase dev sub)
      status := s.status.btAccept }
  | .writeReg dev sub val =>
    { s with
      bt := { s.bt with state := .write, dev := dev, sub := sub, val := val }
      outstanding := some (registerWrite dev sub val)
      status := s.status.btAccept }
  | .writeBlock dev len =>
    { s with
      bt := { s.bt with state := .write, dev := dev, len := len, buf := s.block }
      outstanding := some (blockWrite dev s.block len)
      status := s.status.btAccept }
  | .pulseMeasure =>
    { s with
      pwt := { state := .trigLow, r := s.par.trigLow, timeout := s.pwtTimeout }
      pwtStart := 0#32
      pwtEnd := 0#32
      pwtDuration := 0#32
      trigOut := false
      status := s.status.pwtAccept }

/-- A command written to CMD always answers a next state, and which one: an ill-formed one is illegal, one
for a busy unit is rejected, and every other is accepted. -/
theorem exec_eq (i : Instr) (s : State) :
    exec i s = .next
      (if i.wellFormed then (if s.busy i.unit then s.rejectBusy else accepted i s)
       else s.refuseIllegal) := by
  cases i <;> simp only [exec, execReadReg, execWriteReg, execWriteBlock, execPulseMeasure,
    State.accept, Instr.unit, Instr.wellFormed, if_true] <;> congr 1

/-- A host write to CMD: illegal, or the meaning of the command the word decodes to. -/
theorem cmdWrite_ok {w : Word} {i : Instr} (h : decode w = .ok i) (s : State) :
    cmdWrite w s = exec i s := by
  simp [cmdWrite, h]

theorem cmdWrite_error {w : Word} {r : IllegalWord} (h : decode w = .error r) (s : State) :
    cmdWrite w s = .next s.refuseIllegal := by
  simp [cmdWrite, h]

/-! ## The host's turn -/

/-- A 32-bit host write that answers a next state is a write to the register at its offset. -/
theorem hostWrite_next {off n : Nat} {v : Word} {s t : State} (h : hostWrite off n v s = .next t) :
    n = 4 ∧ ∃ r, regAt off = some r ∧ regWrite r v s = .next t := by
  unfold hostWrite accessReg at h
  split at h
  · rename_i r hr
    split at hr
    · exact ⟨‹_›, r, hr, h⟩
    · cases hr
  · cases h

theorem hostRead_next {off n : Nat} {s t : State} (h : hostRead off n s = .next t) : SameBlock s t := by
  unfold hostRead at h
  split at h
  · cases h; rfl
  · cases h

/-- What one access of a driver call can do. -/
theorem frameStep_next {f : CallFrame} {s t : State} (h : frameStep f s = .next t) :
    SameBlock s t ∨
    ∃ i rest, f.todo = i :: rest ∧ f.phase = .issue ∧ s.busy i.unit = false ∧
      ∃ s', SameBlock s s' ∧ cmdWrite (encode i) s' = .next t := by
  unfold frameStep at h
  split at h
  · cases h; exact .inl (sameBlock_callNext ..)
  · rename_i i rest htodo
    split at h
    · rename_i hp
      unfold frameIssue at h
      split at h
      · cases h
      · rename_i hb
        exact .inr ⟨i, rest, htodo, hp, by simpa using hb, _, sameBlock_setCall .., h⟩
    · cases h; exact .inl rfl
    · cases h
      left
      unfold frameStatus
      simp only
      split
      · rfl
      · split
        · rfl
        · exact sameBlock_trans (sameBlock_returnRead ..) (sameBlock_callNext ..)
    · cases h
      left
      unfold frameData
      split
      · exact sameBlock_trans (sameBlock_returnRead ..) (sameBlock_callNext ..)
      · exact sameBlock_callNext ..

/-- What a host's turn can do: nothing to the block, or one register write. -/
theorem hostTurn_next {s t : State} (h : hostTurn s = .next t) :
    SameBlock s t ∨
    ∃ s' off v r, SameBlock s s' ∧ turnWrite s = some (off, v) ∧ regAt off = some r ∧
      regWrite r v s' = .next t := by
  unfold hostTurn at h
  split at h
  · rename_i f hf
    rcases frameStep_next h with h | ⟨i, rest, ht, hp, hb, s', hs, h⟩
    · exact .inl h
    · exact .inr ⟨s', 0, encode i, .cmd, hs, by simp [turnWrite, hf, ht, hp, hb], rfl, h⟩
  · rename_i hc
    have hs := sameBlock_takeOp s
    unfold turnWrite
    rw [hc]
    generalize s.takeOp = p at *
    obtain ⟨op, s'⟩ := p
    simp only at h hs ⊢
    cases op with
    | w32 off v =>
      obtain ⟨-, r, hr, h⟩ := hostWrite_next h
      exact .inr ⟨s', off, v, r, hs, rfl, hr, h⟩
    | r32 off => exact .inl (sameBlock_trans hs (hostRead_next h))
    | wait off mask value =>
      simp only [runOp, waitStep] at h
      split at h
      · cases h
        left
        refine sameBlock_trans hs ?_
        split <;> rfl
      · cases h
    | cmd c =>
      simp only [runOp] at h
      split at h
      · rename_i w hw
        obtain ⟨-, r, hr, h⟩ := hostWrite_next h
        exact .inr ⟨s', 0, w, r, hs, by simp [hw], hr, h⟩
      · cases h
    | memRead addr n =>
      simp only [runOp, memRead] at h
      split at h
      · exact .inl (sameBlock_trans hs (hostRead_next h))
      · cases h
    | memWrite addr n v =>
      simp only [runOp, memWrite] at h
      split at h
      · rename_i off ho
        obtain ⟨rfl, r, hr, h⟩ := hostWrite_next h
        have hpar : s'.par = s.par := by
          obtain ⟨_, _, _, rfl⟩ := sameBlock_iff.1 hs
          rfl
        exact .inr ⟨s', off, v, r, hs, by simp [← hpar, ho], hr, h⟩
      · cases h
    | call c =>
      simp only [runOp, callStart] at h
      split at h
      · cases h; exact .inl (sameBlock_trans hs (sameBlock_callNext ..))
      · cases h

/-! ## A step -/

/-- What a step can do, with the event it takes: an answer, a late answer, a tick or a reset, applied to the
state with the event taken; or a host's turn that leaves the block alone or makes one register write. -/
theorem step_next {s t : State} (h : step s = .next t) :
    (∃ d, s.takeEvent.1 = .answer d ∧ t = s.takeEvent.2.btAnswer d) ∨
    (∃ d, s.takeEvent.1 = .lateAnswer d ∧ t = s.takeEvent.2.discardLate) ∨
    (∃ e, s.takeEvent.1 = .tick e ∧ t = s.takeEvent.2.tick e) ∨
    (s.takeEvent.1 = .reset ∧ t = s.takeEvent.2.blockReset) ∨
    (s.takeEvent.1 = .host ∧ SameBlock s t) ∨
    (s.takeEvent.1 = .host ∧ ∃ s' off v r, SameBlock s s' ∧ stepWrite s = some (off, v) ∧
      regAt off = some r ∧ regWrite r v s' = .next t) := by
  have hs := sameBlock_takeEvent s
  unfold step at h
  unfold stepWrite
  generalize s.takeEvent = p at *
  obtain ⟨e, s'⟩ := p
  simp only at h hs ⊢
  cases e with
  | host =>
    rcases hostTurn_next h with h | ⟨s'', off, v, r, h₁, h₂, h₃, h₄⟩
    · exact .inr (.inr (.inr (.inr (.inl ⟨rfl, sameBlock_trans hs h⟩))))
    · exact .inr (.inr (.inr (.inr (.inr ⟨rfl, s'', off, v, r, sameBlock_trans hs h₁, h₂, h₃, h₄⟩))))
  | answer d => cases h; simp
  | lateAnswer d => cases h; simp
  | tick e => cases h; simp
  | reset => cases h; simp

end Sys2Proof.Laws
end

