-- ==== Sys2Proof/Tests/Slice0.lean ====
section
/-! SUPPORT. Small tests of single steps, with their expected values from spec/ (95_test_vectors.md where no
other file is named), and a witness for the hypotheses of every statement that has hypotheses. -/

namespace Sys2Proof.Tests

open Sys2Proof.Machine Sys2Proof.Safety

/-! ## Helpers -/

/-- The reset state with known values where R48 and R7 leave any: TRIG_LOW_TICKS = 2, TRIG_HIGH_TICKS = 10,
TICKS = 900 (program P3), BASE = 0x40. -/
def base : State :=
  { State.reset with
    bt :=
      { state := .idle, dev := 0#7, sub := 0#8, val := 0#8, len := 0#5
        buf := Vector.replicate 16 0#8, held := false }
    pwt := { state := .idle, r := 0#32, timeout := 0#32 }
    ticks := 900#32
    par :=
      { base := 0x40, trigLow := 2#32, trigHigh := 10#32, ticksPerSecond := 1000000, busDeadline := 0 } }

/-- The next state of an outcome, or `base`. -/
def got : Host.Outcome State Fault Refusal → State
  | .next t => t
  | .fault _ => base
  | .refused _ => base

/-- `base` with a command accepted. -/
def started (i : Instr) : State := got (exec i base)

/-- `base` with the PWT in a phase, `r` ticks remaining of the budget `timeout`. -/
def measuring (st : PwtState) (r timeout : Word) : State :=
  { base with
    status := { base.status with pwtBusy := true }
    pwt := { state := st, r := r, timeout := timeout } }

/-- `base` with one host operation and the host's turn next. -/
def hosting (op : HostOp) : State :=
  { base with events := [.host], host := { base.host with program := [op] } }

/-- `base` with an event queued. -/
def upcoming (e : Event) : State := { base with events := [e] }

/-! ## Well-formedness: an ill-formed term for the one check -/

theorem test_wellFormed_block_0_refused : ¬ (Instr.writeBlock 0x6A#7 0#5).WellFormed := by decide
theorem test_wellFormed_block_17_refused : ¬ (Instr.writeBlock 0x6A#7 17#5).WellFormed := by decide
theorem test_wellFormed_block_1_to_16 :
    (Instr.writeBlock 0x6A#7 1#5).WellFormed ∧ (Instr.writeBlock 0x6A#7 16#5).WellFormed := by decide

/-! ## Decode: L2.1, and words written out bit by bit from R102 to R105 -/

theorem test_decode_readReg_bits :
    decode 0b00000000000000001111011010100001#32 = .ok (.readReg 0b1101010#7 0b00001111#8) := by rfl
theorem test_decode_writeReg_bits :
    decode 0b00001010000000010000011010100010#32 =
      .ok (.writeReg 0b1101010#7 0b00010000#8 0b10100000#8) := by rfl
theorem test_decode_writeBlock_bits :
    decode 0b00000000000000010000011010100011#32 = .ok (.writeBlock 0b1101010#7 0b10000#5) := by rfl
theorem test_decode_pulseMeasure_bits :
    decode 0b00000000000000000000000000001000#32 = .ok .pulseMeasure := by rfl
theorem test_decode_largest_fields :
    decode 0x000FF7F1#32 = .ok (.readReg 0x7F#7 0xFF#8) ∧
    decode 0x0FFFF7F2#32 = .ok (.writeReg 0x7F#7 0xFF#8 0xFF#8) ∧
    decode 0x000107F3#32 = .ok (.writeBlock 0x7F#7 16#5) := ⟨rfl, rfl, rfl⟩
theorem test_decode_illegal_opcode :
    decode 0x00000000#32 = .error .opcode ∧ decode 0x00000004#32 = .error .opcode ∧
    decode 0x0000000F#32 = .error .opcode := ⟨rfl, rfl, rfl⟩
theorem test_decode_illegal_reserved :
    decode 0x0000FEA1#32 = .error .reservedBit ∧ decode 0x0010F6A1#32 = .error .reservedBit ∧
    decode 0x10000002#32 = .error .reservedBit ∧ decode 0x000206A3#32 = .error .reservedBit ∧
    decode 0x80000008#32 = .error .reservedBit := ⟨rfl, rfl, rfl, rfl, rfl⟩
theorem test_decode_illegal_length :
    decode 0x000006A3#32 = .error .blockLength ∧ decode 0x000116A3#32 = .error .blockLength := ⟨rfl, rfl⟩
/-- R115's example. -/
theorem test_assemble_example : (Asm.readReg 0x6A 0x0F).assemble = some 0x0000F6A1#32 := by decide
theorem test_assemble_out_of_range : (Asm.readReg 0x80 0x0F).assemble = none := by decide
theorem test_decodeTableWord : decodeTableWord 32 0x0A0106A2 = some (.writeReg 0x6A#7 0x10#8 0xA0#8) := by
  decide
theorem test_withFetchWord_runs_first :
    ((got (step (State.reset.withFetchWord 32 0x000026A3))).bt.state,
      (got (step (State.reset.withFetchWord 32 0x000026A3))).status.word) =
      (.write, 0x00000001#32) := by decide

/-! ## Acceptance: one step of each command -/

/-- L2.2.1, right after the CMD write. -/
theorem test_readReg_issues_address_phase :
    ((started (.readReg 0x6A#7 0x0F#8)).outstanding, (started (.readReg 0x6A#7 0x0F#8)).status.word) =
      (some (.write 0x6A#7 [0x0F#8] true), 0x00000001#32) := by decide
/-- L2.5.5: a legal command with the BT busy and CMD_ILLEGAL set. -/
theorem test_readReg_busy_rejected :
    (got (exec (.readReg 0x6A#7 0x0F#8)
      { base with status := { base.status with btBusy := true, cmdIllegal := true } })).status.word =
      0x00030001#32 := by decide
/-- L2.3.1. -/
theorem test_writeReg_issues_sub_then_val :
    (started (.writeReg 0x6A#7 0x10#8 0xA0#8)).outstanding =
      some (.write 0x6A#7 [0x10#8, 0xA0#8] false) := by decide
/-- R28: acceptance clears DONE, ERR, code and step, and leaves CMD_ILLEGAL (R246). -/
theorem test_writeReg_clears_the_last_report :
    (got (exec (.writeReg 0x6A#7 0x10#8 0xA0#8)
      { base with status := { base.status with
          btDone := true, btErr := true, btErrCode := 0b01#2, btErrStep := 0b10#2
          cmdIllegal := true } })).status.word = 0x00010001#32 := by decide
/-- R136's example: WBUF0 = 0x0000A010, two bytes. -/
theorem test_writeBlock_sends_low_byte_first :
    (got (exec (.writeBlock 0x6A#7 2#5) { base with wbuf0 := 0x0000A010#32 })).outstanding =
      some (.write 0x6A#7 [0x10#8, 0xA0#8] false) := by decide
/-- L2.3.7: byte `i` of the 16 is `i`. -/
theorem test_writeBlock_sends_sixteen :
    (got (exec (.writeBlock 0x6A#7 16#5)
      { base with
        wbuf0 := 0x03020100#32, wbuf1 := 0x07060504#32, wbuf2 := 0x0B0A0908#32
        wbuf3 := 0x0F0E0D0C#32 })).outstanding =
      some (.write 0x6A#7 ((List.range 16).map (BitVec.ofNat 8)) false) := by decide
/-- L2.4: acceptance of PULSE_MEASURE. -/
theorem test_pulseMeasure_starts :
    ((started .pulseMeasure).status.word, (started .pulseMeasure).pwt.state, (started .pulseMeasure).pwt.r) =
      (0x00000100#32, .trigLow, 2#32) := by decide
/-- L2.4.12. -/
theorem test_pulseMeasure_busy_rejected :
    got (exec .pulseMeasure (measuring .waitFall 2#32 3#32)) =
      { measuring .waitFall 2#32 3#32 with
        status := { (measuring .waitFall 2#32 3#32).status with cmdReject := true } } := by decide

/-! ## One answer -/

/-- L2.2.1, after the first answer. -/
theorem test_answer_address_ok :
    (((started (.readReg 0x6A#7 0x0F#8)).btAnswer (.ok 0#8)).outstanding,
      ((started (.readReg 0x6A#7 0x0F#8)).btAnswer (.ok 0#8)).bt.held) =
      (some (.read 0x6A#7 1 false), true) := by decide
/-- L2.2.3. -/
theorem test_answer_address_timeout :
    ((started (.readReg 0x6A#7 0x0F#8)).btAnswer (.error .timeout)).status.word = 0x00000036#32 := by decide
/-- L2.2.4. -/
theorem test_answer_data_noAck :
    (((started (.readReg 0x6A#7 0x0F#8)).btAnswer (.ok 0#8)).btAnswer (.error .noAck)).status.word =
      0x0000004E#32 := by decide
/-- L2.3.2. -/
theorem test_answer_write_noAck :
    ((started (.writeReg 0x6A#7 0x10#8 0xA0#8)).btAnswer (.error .noAck)).trace =
      [⟨.write 0x6A#7 [0x10#8, 0xA0#8] false, .error .noAck⟩] := by decide

/-! ## One tick -/

/-- P3: tick 901 sets the trigger. -/
theorem test_tick_sets_trigger :
    (((measuring .trigLow 1#32 3#32).tick false).trigOut,
      ((measuring .trigLow 1#32 3#32).tick false).pwt.r) = (true, 10#32) := by decide
/-- L2.4.4: with no budget the tick times out although the echo is high. -/
theorem test_tick_zero_budget :
    ((measuring .waitRise 0#32 0#32).tick true).status.word = 0x00000E00#32 := by decide
/-- L2.4.10: the difference across a wrap. -/
theorem test_tick_duration_wraps :
    (({ measuring .waitFall 8#32 10#32 with ticks := 0x00000001#32, pwtStart := 0xFFFFFFFE#32 } : State).tick
      false).pwtDuration = 3#32 := by decide
/-- L2.4.1, tick 107. -/
theorem test_tick_fall_timeout :
    ((measuring .waitFall 0#32 3#32).tick true).status.word = 0x00001600#32 := by decide

/-! ## Registers and reset -/

/-- A STATUS value of L2.5.1, 0x00030E2E. -/
def reported : Status :=
  { Status.zero with
    btDone := true, btErr := true, btErrCode := 0b01#2, btErrStep := 0b01#2, pwtDone := true, pwtErr := true
    pwtErrPhase := 0b01#2, cmdIllegal := true, cmdReject := true }

theorem test_status_word : reported.word = 0x00030E2E#32 := by decide
/-- L2.5.1. -/
theorem test_status_clear : (reported.writeOneToClear 0x00030606#32).word = 0x00000828#32 := by decide
/-- L2.5.4. -/
theorem test_illegal_before_reject :
    (got (hostWrite 0x00 4 0x000006A3#32
      { base with status := { base.status with btBusy := true } })).status.word = 0x00010001#32 := by decide
theorem test_wbuf_reads_back :
    (got (hostRead 0x10 4 (got (hostWrite 0x10 4 0xDEADBEEF#32 base)))).host.reads = [0xDEADBEEF#32] := by
  decide
theorem test_rdata_is_read_only : got (hostWrite 0x08 4 0x12345678#32 base) = base := by decide
/-- U3. -/
theorem test_byte_access_refused : memRead 0x44 1 base = .refused .hostAccessOutsideContract := by rfl
/-- L2.7: reset in DATA. -/
theorem test_reset_aborts :
    (((started (.readReg 0x6A#7 0x0F#8)).btAnswer (.ok 0#8)).blockReset.status.word,
      ((started (.readReg 0x6A#7 0x0F#8)).btAnswer (.ok 0#8)).blockReset.outstanding) =
      (0x00000000#32, none) := by decide

/-! ## Host reference -/

/-- L1.1. -/
theorem test_decode16 :
    decode16 0x80#8 0x00#8 = -32768 ∧ decode16 0x7F#8 0xFF#8 = 32767 ∧ decode16 0xFC#8 0x18#8 = -1000 := by
  decide
/-- L2.6: 0.017715092395000003 rad/s. -/
theorem test_angularRate_232 : angularRate 232 = 0x3F9223E7B9EDB6FB#64 := by decide
/-- L2.6: -0.59820565 m/s². -/
theorem test_linearAccel_neg_1000 : linearAccel (-1000) = roundRatio true 59820565 100000000 := by decide
/-- L2.6: 0.09947 m. -/
theorem test_distance_580 : distanceOf 580#32 1000000 = roundRatio false 9947 100000 := by decide
/-- R117: CLEAR_STATUS and LOAD_WBUF of five bytes. -/
theorem test_macros :
    clearStatusMacro = [.w32 0x04 0x00030606#32] ∧
    loadWbufMacro [0x10#8, 0xA0#8, 0x01#8, 0x02#8, 0x03#8] =
      [.w32 0x0C 0x0201A010#32, .w32 0x10 0x00000003#32] := by decide

/-! ## Witnesses: every statement with hypotheses has values that meet them -/

theorem test_witness_CommandsDecodeToThemselves :
    (Instr.readReg 0x7F#7 0xFF#8).WellFormed ∧ (Instr.writeReg 0x7F#7 0xFF#8 0xFF#8).WellFormed ∧
    (Instr.writeBlock 0x7F#7 16#5).WellFormed ∧ Instr.pulseMeasure.WellFormed := by decide

theorem test_witness_DecodedWordsEncodeBack :
    decode 0x000FF7F1#32 = .ok (.readReg 0x7F#7 0xFF#8) := by rfl

/-- One word for each clause, at the ends of the LEN range for the third. -/
theorem test_witness_DecodeFollowsTheRule :
    0x0000F6A1#32 &&& 0xFFF0080F#32 = 0x1#32 ∧ 0x0FFFF7F2#32 &&& 0xF000080F#32 = 0x2#32 ∧
    (0x000106A3#32 &&& 0xFFFE080F#32 = 0x3#32 ∧ (0x000106A3#32 >>> 12).toNat % 32 = 16) ∧
    (0x000016A3#32 &&& 0xFFFE080F#32 = 0x3#32 ∧ (0x000016A3#32 >>> 12).toNat % 32 = 1) ∧
    (0x000116A3#32 &&& 0xFFF0080F#32 ≠ 0x1#32 ∧ 0x000116A3#32 &&& 0xF000080F#32 ≠ 0x2#32 ∧
      (0x000116A3#32 >>> 12).toNat % 32 = 17 ∧ 0x000116A3#32 ≠ 0x8#32) := by decide

theorem test_witness_IllegalWordsOnlySetCmdIllegal :
    decode 0x000006A3#32 = .error .blockLength ∧ decode 0x00000018#32 = .error .reservedBit ∧
    decode 0x00000009#32 = .error .opcode := ⟨rfl, rfl, rfl⟩

theorem test_witness_StepRunsTheDecodedCommand :
    decode 0x0000F6A1#32 = .ok (.readReg 0x6A#7 0x0F#8) ∧
    (Asm.readReg 0x6A 0x0F).assemble = some 0x0000F6A1#32 ∧
    ∀ op ∈ [HostOp.w32 0x00 0x0000F6A1#32, .cmd (.readReg 0x6A 0x0F), .memWrite 0x40 4 0x0000F6A1#32],
      (hosting op).events = .host :: [] ∧ (hosting op).host.call = none ∧
      (hosting op).host.program = op :: [] ∧ (hosting op).par.base = 0x40 :=
  ⟨rfl, by decide, by decide⟩

theorem test_witness_StepAppliesTheQueuedEvent :
    (upcoming (.answer (.ok 1#8))).events = .answer (.ok 1#8) :: [] ∧
    (upcoming (.tick true)).events = .tick true :: [] ∧ (upcoming .reset).events = .reset :: [] := by decide

/-- A legal word for an idle and for a busy unit, and an illegal word. -/
theorem test_witness_AcceptanceIsVisibleAtOnce :
    decode 0x00000008#32 = .ok .pulseMeasure ∧ base.busy .pwt = false ∧
    (measuring .waitRise 1#32 1#32).busy .pwt = true ∧ decode 0x0000000F#32 = .error .opcode :=
  ⟨rfl, by decide, by decide, rfl⟩

/-- For the statements whose hypothesis on the state is an idle BT. -/
theorem test_witness_bt_idle : base.status.btBusy = false := by decide

theorem test_witness_WriteBlockIsAcceptedWhenIdle :
    base.status.btBusy = false ∧ 1 ≤ (16#5).toNat ∧ (16#5).toNat ≤ 16 ∧ 1 ≤ (1#5).toNat := by decide

theorem test_witness_BlockLengthOutOfRangeIsIllegal : (0#5).toNat = 0 ∧ 16 < (17#5).toNat := by decide

/-- For the statements whose hypothesis on the state is an idle PWT. -/
theorem test_witness_pwt_idle : base.status.pwtBusy = false := by decide

theorem test_witness_BusyUnitRejectsTheCommand :
    decode 0x0000F6A1#32 = .ok (.readReg 0x6A#7 0x0F#8) ∧
    (started (.writeReg 0x6A#7 0x10#8 0xA0#8)).busy .bt = true := ⟨rfl, by decide⟩

/-- Both outcomes of each phase. -/
theorem test_witness_ReadRegRunsItsTwoPhases :
    (∃ k, Draw.error .noAck = .error k) ∧ (∃ b, Draw.ok 0x69#8 = .ok b) ∧
    base.status.btBusy = false := ⟨⟨_, rfl⟩, ⟨_, rfl⟩, by decide⟩

theorem test_witness_TwoByteBlockEqualsRegisterWrite :
    ({ base with wbuf0 := 0x0000A010#32 } : State).wbuf0.setWidth 8 = 0x10#8 ∧
    (({ base with wbuf0 := 0x0000A010#32 } : State).wbuf0 >>> 8).setWidth 8 = 0xA0#8 ∧
    ({ base with wbuf0 := 0x0000A010#32 } : State).status.btBusy = false := by decide

/-- Leaving IDLE by a command write, leaving ADDR by an answer, and leaving ADDR by a reset. -/
theorem test_witness_TransactorTransitionsAreTheTable :
    Consistent (hosting (.w32 0x00 0x0000F6A1#32)) ∧
    (got (step (hosting (.w32 0x00 0x0000F6A1#32)))).bt.state = .addr ∧
    Consistent { started (.readReg 0x6A#7 0x0F#8) with events := [.answer (.ok 0#8)] } ∧
    (got (step { started (.readReg 0x6A#7 0x0F#8) with events := [.answer (.ok 0#8)] })).bt.state = .data ∧
    (got (step { started (.readReg 0x6A#7 0x0F#8) with events := [.reset] })).bt.state = .idle := by decide

/-- An answer of each kind (Ok in ADDR, and Ok in WRITE), and a step of each kind that changes the outstanding primitive. -/
theorem test_witness_NoPrimitiveIsRetried :
    Consistent (started (.readReg 0x6A#7 0x0F#8)) ∧ (started (.readReg 0x6A#7 0x0F#8)).bt.state = .addr ∧
    Consistent (started (.writeReg 0x6A#7 0x10#8 0xA0#8)) ∧
    (started (.writeReg 0x6A#7 0x10#8 0xA0#8)).bt.state = .write ∧
    (got (step (hosting (.w32 0x00 0x0000F6A1#32)))).outstanding ≠
      (hosting (.w32 0x00 0x0000F6A1#32)).outstanding ∧
    (got (step { started (.readReg 0x6A#7 0x0F#8) with events := [.answer (.ok 0#8)] })).outstanding ≠
      (started (.readReg 0x6A#7 0x0F#8)).outstanding ∧
    (got (step { started (.readReg 0x6A#7 0x0F#8) with events := [.reset] })).outstanding = none := by decide

/-- A state in the data phase of a READ_REG. -/
def inData : State := (started (.readReg 0x6A#7 0x0F#8)).btAnswer (.ok 0#8)

theorem test_witness_RdataChangesOnlyByDataPhase :
    (got (step { inData with events := [.answer (.ok 0x69#8)] })).rdata ≠ inData.rdata ∧
    (got (step { inData with rdata := 5#32, events := [.reset] })).rdata ≠ 5#32 := by decide

theorem test_witness_IdleTimerTickOnlyCounts : base.pwt.state = .idle := by decide

theorem test_witness_CounterAdvancesByOneATick :
    (got (step (upcoming (.tick false)))).ticks ≠ (upcoming (.tick false)).ticks := by decide

theorem test_witness_TriggerPulseLastsItsTicks :
    base.status.pwtBusy = false ∧ base.par.Legal ∧ (exec .pulseMeasure base = .next (started .pulseMeasure)) ∧
    (List.replicate 12 false).length = base.par.trigLow.toNat + base.par.trigHigh.toNat :=
  ⟨by decide, by decide, rfl, by decide⟩

/-- A rise wait with one tick of budget: `k = 0`, and results 0. -/
theorem test_witness_RiseWaitCapturesOrTimesOut :
    (measuring .trigHigh 1#32 1#32).pwt.state = .trigHigh ∧ (measuring .trigHigh 1#32 1#32).pwt.r = 1#32 ∧
    0 < (measuring .trigHigh 1#32 1#32).pwt.timeout.toNat ∧ ResultsZero (measuring .trigHigh 1#32 1#32) := by
  decide

theorem test_witness_FallWaitCapturesOrTimesOut :
    (measuring .waitRise 1#32 1#32).pwt.state = .waitRise ∧ (measuring .waitRise 1#32 1#32).pwt.r ≠ 0#32 ∧
    0 < (measuring .waitRise 1#32 1#32).pwt.timeout.toNat ∧ (measuring .waitRise 1#32 1#32).pwtEnd = 0#32 ∧
    (measuring .waitRise 1#32 1#32).pwtDuration = 0#32 := by decide

theorem test_witness_TimeoutCheckPrecedesTheSample :
    ((measuring .waitRise 0#32 3#32).pwt.r = 0#32 ∧ (measuring .waitRise 0#32 3#32).pwt.state = .waitRise) ∧
    (measuring .waitFall 0#32 3#32).pwt.r = 0#32 ∧ (measuring .waitFall 0#32 3#32).pwt.state = .waitFall := by
  decide

theorem test_witness_MeasurementEndsWithinItsBound :
    base.status.pwtBusy = false ∧ base.par.Legal ∧ exec .pulseMeasure base = .next (started .pulseMeasure) ∧
    base.par.trigLow.toNat + base.par.trigHigh.toNat + 2 * base.pwtTimeout.toNat + 1 ≤
      (List.replicate 13 true).length := ⟨by decide, by decide, rfl, by decide⟩

/-- Consistent states in which a step changes the code and the step fields, and the phase field. -/
theorem test_witness_StatusWriteClearsOnlyWrittenOnes :
    Consistent { started (.readReg 0x6A#7 0x0F#8) with events := [.answer (.error .noAck)] } ∧
    (got (step { started (.readReg 0x6A#7 0x0F#8) with events := [.answer (.error .noAck)] })).status.btErrCode
      ≠ (started (.readReg 0x6A#7 0x0F#8)).status.btErrCode ∧
    Consistent { measuring .waitRise 0#32 0#32 with events := [.tick true] } ∧
    (got (step { measuring .waitRise 0#32 0#32 with events := [.tick true] })).status.pwtErrPhase ≠ 0b00#2 := by
  decide

/-- Both flags set, then cleared by the host. -/
theorem test_witness_CommandPortFlagsAreSticky :
    (∀ s ∈ [{ hosting (.w32 0x04 0x00030000#32) with status := reported }],
      s.status.cmdIllegal = true ∧ (got (step s)).status.cmdIllegal = false ∧
      s.status.cmdReject = true ∧ (got (step s)).status.cmdReject = false) := by decide

theorem test_witness_ReadOnlyAndReservedIgnoreWrites :
    0x3C ∈ [0x08, 0x24, 0x28, 0x2C, 0x30, 0x1C, 0x34, 0x38, 0x3C] ∧
    0x00 ∈ [0x00, 0x1C, 0x34, 0x38, 0x3C] := by decide

theorem test_witness_HostReadsHaveNoSideEffect : 0x3C % 4 = 0 ∧ 0x3C < 0x40 ∧ 0x00 % 4 = 0 := by decide

/-- Each way out of the contract, and the last offset inside it. -/
theorem test_witness_AccessOutsideContractIsRefused :
    base.par.Legal ∧ (2 : Nat) ≠ 4 ∧ 0x41 % 4 ≠ 0 ∧ 0x3C < base.par.base ∧ base.par.base + 0x40 ≤ 0x80 ∧
    (0x3C % 4 = 0 ∧ 0x3C < 0x40 ∧ 0x7C = base.par.base + 0x3C) := by decide

/-- A step that changes WBUF0, and an accepted WRITE_BLOCK. -/
theorem test_witness_BlockBufferHoldsWhatTheHostWrote :
    (got (step (hosting (.w32 0x0C 1#32)))).wbuf0 ≠ (hosting (.w32 0x0C 1#32)).wbuf0 ∧
    (hosting (.w32 0x0C 1#32)).takeEvent.1 ≠ .reset ∧
    (Instr.writeBlock 0x6A#7 16#5).WellFormed ∧ base.status.btBusy = false ∧ (0x0C ≠ 0x10) := by decide

theorem test_witness_OperandWritesLeaveOperationsAlone :
    hostWrite 0x20 4 7#32 base = .next { base with pwtTimeout := 7#32 } ∧
    hostWrite 0x0C 4 7#32 base = .next { base with wbuf0 := 7#32 } := ⟨rfl, rfl⟩

/-- A step that starts each unit. -/
theorem test_witness_OperationsStartOnlyByCommandWrites :
    ((hosting (.w32 0x00 0x0000F6A1#32)).busy .bt = false ∧
      (got (step (hosting (.w32 0x00 0x0000F6A1#32)))).busy .bt = true) ∧
    ((hosting (.cmd .pulseMeasure)).busy .pwt = false ∧
      (got (step (hosting (.cmd .pulseMeasure)))).busy .pwt = true) := by decide

/-- A WAIT that matches and one that does not. -/
theorem test_witness_WaitRepeatsUntilItMatches :
    (hosting (.wait 0x04 1#32 0#32)).events = .host :: [] ∧ (hosting (.wait 0x04 1#32 0#32)).host.call = none ∧
    (hosting (.wait 0x04 1#32 0#32)).host.program = .wait 0x04 1#32 0#32 :: [] ∧
    base.status.word &&& 1#32 = 0#32 ∧ base.status.word &&& 1#32 ≠ 1#32 := by decide

theorem test_witness_ResetAbortsOperations :
    (upcoming .reset).events = .reset :: [] ∧ regAt 0x04 = some .status ∧ Reg.status ≠ .ticks := by decide

theorem test_witness_LateAnswersAreDiscarded :
    (upcoming (.lateAnswer (.ok 1#8))).events = .lateAnswer (.ok 1#8) :: [] ∧
    (upcoming (.answer (.ok 1#8))).events = .answer (.ok 1#8) :: [] ∧
    (upcoming (.answer (.ok 1#8))).bt.state = .idle := by decide

/-- For the invariants and StepKeepsTheParameters: a state in the data phase meets them all, and a step goes on from it. -/
theorem test_witness_StepKeepsInvariants :
    Consistent { inData with events := [.answer (.ok 0x69#8)] } ∧
    OutstandingFits { inData with events := [.answer (.ok 0x69#8)] } ∧
    TraceFits { inData with events := [.answer (.ok 0x69#8)] } ∧
    RdataIsByte { inData with events := [.answer (.ok 0x69#8)] } ∧
    ∃ t, step { inData with events := [.answer (.ok 0x69#8)] } = .next t :=
  ⟨by decide, by decide, by decide, by decide, _, rfl⟩

/-- A state in the fall wait, 2 of its 3 ticks left, one tick after the rise at tick 898. -/
theorem test_witness_StepKeepsMeasurementBounds :
    base.par.Legal ∧
    Consistent { measuring .waitFall 2#32 3#32 with pwtStart := 898#32, events := [.tick false] } ∧
    MeasurementFits { measuring .waitFall 2#32 3#32 with pwtStart := 898#32, events := [.tick false] } ∧
    ∃ t, step { measuring .waitFall 2#32 3#32 with pwtStart := 898#32, events := [.tick false] } = .next t :=
  ⟨by decide, by decide,
    ⟨fun h => absurd h (by decide), fun h => absurd h (by decide), fun h => absurd h (by decide),
      fun h => absurd h (by decide), fun _ => by decide⟩, _, rfl⟩

theorem test_witness_UnitsDoNotInterfere :
    (Instr.readReg 0x6A#7 0x0F#8).unit = .bt ∧
    exec (.readReg 0x6A#7 0x0F#8) base = .next (started (.readReg 0x6A#7 0x0F#8)) ∧
    exec .pulseMeasure base = .next (started .pulseMeasure) := ⟨by decide, rfl, rfl⟩

/-- A call in a state that forbids it, for each form, and one in a state that allows it. -/
theorem test_witness_DriverCallInWrongStateIsRefused :
    (∀ c ∈ [DriverCall.enable, .readAngularRateZ, .readAccelerationXY, .identify, .construct],
      (hosting (.call c)).events = .host :: [] ∧ (hosting (.call c)).host.call = none ∧
      (hosting (.call c)).host.program = .call c :: []) ∧
    base.host.driver = .uninitialized := by decide

/-- A driver call about to look at a failed READ_REG. -/
def failedCall : State :=
  { base with
    events := [.host]
    status := { base.status with btDone := true, btErr := true, btErrCode := 0b01#2, btErrStep := 0b01#2 }
    host := { base.host with
      call := some
        { call := .identify, todo := [.readReg 0x6A#7 0x0F#8], got := [], phase := .status } } }

theorem test_witness_BusErrorEndsTheDriverCall :
    failedCall.events = .host :: [] ∧ failedCall.status.btErr = true ∧
    failedCall.status.btErrCode = 0b01#2 ∧ (Instr.readReg 0x6A#7 0x0F#8).unit = .bt ∧
    (got (step failedCall)).host.results = [.bus .noAck] := by decide

/-- `base` with `identify()` and the events of one undisturbed run of it. -/
def identifying (b : Byte) : State :=
  { base with
    events := [.host, .host, .answer (.ok 0#8), .answer (.ok b), .host, .host, .host] ++ []
    host := { base.host with program := .call .identify :: [] } }

/-- Both clauses: the byte is 0x69, and it is not (L1.4). -/
theorem test_witness_IdentifyVerifiesOnlyTheExpectedByte :
    (identifying 0x69#8).status.btBusy = false ∧ (identifying 0x69#8).host.call = none ∧
    (identifying 0x69#8).host.program = .call .identify :: [] ∧
    (identifying 0x69#8).events =
      [.host, .host, .answer (.ok 0#8), .answer (.ok 0x69#8), .host, .host, .host] ++ [] ∧
    (identifying 0x68#8).host.program = .call .identify :: [] ∧ (0x68#8 : Byte) ≠ 0x69#8 := by decide

end Sys2Proof.Tests
end

/-! SUPPORT. What a step leaves of the parameters (R7), and which event it takes (R80). -/

namespace Sys2Proof.Proofs

open Sys2Proof.Machine Sys2Proof.Laws Sys2Proof.Safety

/-! ## The queued event -/

/-- Where an event is queued, the step takes it and runs it on the state without it (R80). -/
theorem step_of_events_cons {s : State} {e : Event} {es : List Event} (h : s.events = e :: es) :
    step s = runEvent e { s with events := es } := by
  simp only [step, State.takeEvent, h]

/-- Settles O8: the step runs the queued event, and these three events always answer a next state. -/
theorem stepAppliesTheQueuedEvent : Obligations.StepAppliesTheQueuedEvent := by
  intro s es
  exact ⟨fun _ h => step_of_events_cons h, fun _ h => step_of_events_cons h, step_of_events_cons⟩

/-! ## The parameters -/

/-- What changes the host and the queues only keeps the parameters. -/
theorem par_of_sameBlock {s t : State} (h : SameBlock s t) : t.par = s.par := by
  obtain ⟨_, _, _, rfl⟩ := sameBlock_iff.1 h
  rfl

/-- A transport answer keeps the parameters, in each state of the BT. -/
@[simp] theorem btAnswer_par (s : State) (d : Draw) : (s.btAnswer d).par = s.par := by
  cases h : s.bt.state with simp only [State.btAnswer, h]
  | addr => cases d <;> simp [addrAnswer]
  | data => cases d <;> simp [dataAnswer]
  | write => cases d <;> simp [writeAnswer]

/-- The timer's step keeps the parameters, in each of its states. -/
@[simp] theorem pwtTick_par (s : State) (n : Word) (e : Level) : (s.pwtTick n e).par = s.par := by
  cases h : s.pwt.state with simp only [State.pwtTick, h]
  | trigLow => simp only [trigLowTick]; split_ifs <;> simp
  | trigHigh => simp only [trigHighTick]; split_ifs <;> simp
  | waitRise => simp only [waitRiseTick]; split_ifs <;> simp
  | waitFall => simp only [waitFallTick]; split_ifs <;> simp

@[simp] theorem tick_par (s : State) (e : Level) : (s.tick e).par = s.par := pwtTick_par s s.ticks e

@[simp] theorem accepted_par (i : Instr) (s : State) : (accepted i s).par = s.par := by
  cases i <;> rfl

/-- A command keeps the parameters, whether it is illegal, rejected or accepted. -/
theorem par_of_exec {i : Instr} {s t : State} (h : exec i s = .next t) : t.par = s.par := by
  rw [exec_eq] at h
  cases h
  split
  · split <;> simp
  · simp

/-- A write to CMD keeps the parameters, whether its word decodes or not. -/
theorem par_of_cmdWrite {w : Word} {s t : State} (h : cmdWrite w s = .next t) : t.par = s.par := by
  cases hw : decode w with
  | ok i => exact par_of_exec (cmdWrite_ok hw s ▸ h)
  | error r =>
    rw [cmdWrite_error hw] at h
    cases h
    simp

/-- A register write keeps the parameters: every register but CMD sets its own field or nothing. -/
theorem par_of_regWrite {r : Reg} {v : Word} {s t : State} (h : regWrite r v s = .next t) :
    t.par = s.par := by
  cases r
  case cmd => exact par_of_cmdWrite h
  all_goals cases h; rfl

/-- Settles O48: none of the forms a step has, an answer, a late answer, a tick, a reset or a turn of the
host, changes a parameter. -/
theorem stepKeepsTheParameters : Obligations.StepKeepsTheParameters := by
  intro s t h
  have htake : s.takeEvent.2.par = s.par := par_of_sameBlock (sameBlock_takeEvent s)
  rcases step_next h with ⟨d, -, rfl⟩ | ⟨d, -, rfl⟩ | ⟨e, -, rfl⟩ | ⟨-, rfl⟩ | ⟨-, hs⟩ |
    ⟨-, s', off, v, r, hs, -, -, hw⟩
  · rw [btAnswer_par, htake]
  · rw [State.discardLate_par, htake]
  · rw [tick_par, htake]
  · rw [State.blockReset_par, htake]
  · exact par_of_sameBlock hs
  · rw [par_of_regWrite hw, par_of_sameBlock hs]

end Sys2Proof.Proofs

/-! SUPPORT. What each operation of the block leaves unchanged, and what a step can do to the block, for the
statements about the state and its registers (10_state.md). -/

namespace Sys2Proof.Proofs

open Sys2Proof.Machine Sys2Proof.Laws Sys2Proof.Safety

/-! ## States of the same block -/

theorem status_of_sameBlock {s t : State} (h : SameBlock s t) : t.status = s.status := by
  obtain ⟨_, _, _, rfl⟩ := sameBlock_iff.1 h
  rfl

theorem pwt_of_sameBlock {s t : State} (h : SameBlock s t) : t.pwt = s.pwt := by
  obtain ⟨_, _, _, rfl⟩ := sameBlock_iff.1 h
  rfl

theorem ticks_of_sameBlock {s t : State} (h : SameBlock s t) : t.ticks = s.ticks := by
  obtain ⟨_, _, _, rfl⟩ := sameBlock_iff.1 h
  rfl

theorem sameOperands_of_sameBlock {s t : State} (h : SameBlock s t) : SameOperands s t := by
  obtain ⟨_, _, _, rfl⟩ := sameBlock_iff.1 h
  exact ⟨rfl, rfl, rfl, rfl, rfl⟩

/-! ## What an answer and a tick change -/

/-- An answer changes the BT, its STATUS fields, RDATA and the transport's end only (R144). -/
theorem btAnswer_frame (s : State) (d : Draw) :
    s.btAnswer d = { s with
      status := (s.btAnswer d).status
      rdata := (s.btAnswer d).rdata
      bt := (s.btAnswer d).bt
      outstanding := (s.btAnswer d).outstanding
      trace := (s.btAnswer d).trace } := by
  cases h : s.bt.state <;> cases d <;> simp only [State.btAnswer, h] <;> rfl

theorem sameOperands_btAnswer (s : State) (d : Draw) : SameOperands s (s.btAnswer d) := by
  rw [btAnswer_frame]
  exact ⟨rfl, rfl, rfl, rfl, rfl⟩

theorem sameTimer_btAnswer (s : State) (d : Draw) : SameTimer s (s.btAnswer d) := by
  rw [btAnswer_frame]
  exact ⟨rfl, rfl, rfl, rfl, rfl, rfl⟩

/-- The state an answer that ends the operation leaves: the answered primitive is on the trace, nothing is
outstanding, and the BT is in IDLE with the given `held`, RDATA and STATUS (R132). -/
def answered (s : State) (d : Draw) (held : Bool) (rdata : Word) (status : Status) : State :=
  { s with
    trace := (s.record d).trace
    outstanding := none
    rdata := rdata
    bt := { s.bt with state := .idle, held := held }
    status := status }

/-- What an answer can do: nothing in IDLE, lead from the address to the data phase, or end the operation,
with success or an error, and RDATA as it was or the byte read (R130, R134 to R136). -/
theorem btAnswer_cases (s : State) (d : Draw) :
    s.bt.state = .idle ∧ s.btAnswer d = s ∨
    (∃ b, s.bt.state = .addr ∧ d = .ok b ∧
      s.btAnswer d = { s with
        trace := (s.record d).trace
        outstanding := some (dataPhase s.bt.dev)
        bt := { s.bt with state := .data, held := true } }) ∨
    s.bt.state ≠ .idle ∧ ∃ held rdata status, s.btAnswer d = answered s d held rdata status ∧
      (status = s.status.btFinishOk ∨ ∃ k st, status = s.status.btFinishErr k st) ∧
      (rdata = s.rdata ∨ ∃ b : Byte, rdata = b.setWidth 32) := by
  cases h : s.bt.state with
  | idle => exact .inl ⟨rfl, by simp only [State.btAnswer, h]⟩
  | addr =>
    cases d with
    | ok b => exact .inr (.inl ⟨b, rfl, rfl, btAnswer_addr_ok h b⟩)
    | error k => exact .inr (.inr ⟨nofun, _, _, _, btAnswer_addr_error h k, .inr ⟨_, _, rfl⟩, .inl rfl⟩)
  | data =>
    cases d with
    | ok b => exact .inr (.inr ⟨nofun, _, _, _, btAnswer_data_ok h b, .inl rfl, .inr ⟨b, rfl⟩⟩)
    | error k => exact .inr (.inr ⟨nofun, _, _, _, btAnswer_data_error h k, .inr ⟨_, _, rfl⟩, .inl rfl⟩)
  | write =>
    cases d with
    | ok b => exact .inr (.inr ⟨nofun, _, _, _, btAnswer_write_ok h b, .inl rfl, .inl rfl⟩)
    | error k => exact .inr (.inr ⟨nofun, _, _, _, btAnswer_write_error h k, .inr ⟨_, _, rfl⟩, .inl rfl⟩)

/-- STATUS after an answer: as it was, or, where an operation was in flight, the report of its end (R132). -/
theorem btAnswer_status_cases (s : State) (d : Draw) :
    (s.btAnswer d).status = s.status ∨
    s.bt.state ≠ .idle ∧
      ((s.btAnswer d).status = s.status.btFinishOk ∨
        ∃ k st, (s.btAnswer d).status = s.status.btFinishErr k st) := by
  rcases btAnswer_cases s d with ⟨-, h⟩ | ⟨b, -, -, h⟩ | ⟨hbusy, held, rdata, status, h, hstatus, -⟩
  · exact .inl (by rw [h])
  · exact .inl (by rw [h])
  · exact .inr ⟨hbusy, h ▸ hstatus⟩

/-- A tick that finds no measurement in flight (R171, R172). -/
theorem tick_idle {s : State} (h : s.pwt.state = .idle) (e : Level) :
    s.tick e = { s with ticks := s.ticks + 1#32 } := by
  simp only [State.tick, State.pwtTick, h]

/-- A tick with no ticks remaining in the rise wait (R174, R241). -/
theorem tick_waitRise_expired {s : State} (h : s.pwt.state = .waitRise) (hr : s.pwt.r = 0#32) (e : Level) :
    s.tick e = { s with
      pwt := { s.pwt with state := .idle }
      status := s.status.pwtFinishErr .rise
      ticks := s.ticks + 1#32 } := by
  simp only [State.tick, State.pwtTick, h, waitRiseTick, if_pos hr]
  rfl

/-- A tick with no ticks remaining in the fall wait (R175, R241). -/
theorem tick_waitFall_expired {s : State} (h : s.pwt.state = .waitFall) (hr : s.pwt.r = 0#32) (e : Level) :
    s.tick e = { s with
      pwt := { s.pwt with state := .idle }
      status := s.status.pwtFinishErr .fall
      ticks := s.ticks + 1#32 } := by
  simp only [State.tick, State.pwtTick, h, waitFallTick, if_pos hr]
  rfl

/-- A tick changes the PWT, its STATUS fields, its results, its output and the counter only (R144), and
the counter by 1 (R45). -/
theorem tick_frame (s : State) (e : Level) :
    s.tick e = { s with
      status := (s.tick e).status
      pwtStart := (s.tick e).pwtStart
      pwtEnd := (s.tick e).pwtEnd
      pwtDuration := (s.tick e).pwtDuration
      pwt := (s.tick e).pwt
      trigOut := (s.tick e).trigOut
      ticks := s.ticks + 1#32 } := by
  cases h : s.pwt.state <;> simp only [State.tick, State.pwtTick, h]
  case trigLow => simp only [trigLowTick]; split <;> rfl
  case trigHigh => simp only [trigHighTick]; split <;> rfl
  case waitRise => simp only [waitRiseTick]; split_ifs <;> rfl
  case waitFall => simp only [waitFallTick]; split_ifs <;> rfl

@[simp] theorem tick_ticks (s : State) (e : Level) : (s.tick e).ticks = s.ticks + 1#32 := rfl

theorem sameOperands_tick (s : State) (e : Level) : SameOperands s (s.tick e) := by
  rw [tick_frame]
  exact ⟨rfl, rfl, rfl, rfl, rfl⟩

theorem sameTransactor_tick (s : State) (e : Level) : SameTransactor s (s.tick e) := by
  rw [tick_frame]
  exact ⟨rfl, rfl, rfl, rfl, rfl⟩

/-- STATUS after a tick: as it was, or, where a measurement was in flight, the report of its end (R172). -/
theorem tick_status_cases (s : State) (e : Level) :
    (s.tick e).status = s.status ∨
    s.pwt.state ≠ .idle ∧
      ((s.tick e).status = s.status.pwtFinishOk ∨ ∃ ph, (s.tick e).status = s.status.pwtFinishErr ph) := by
  cases h : s.pwt.state with
  | idle => exact .inl (by rw [tick_idle h])
  | trigLow =>
    by_cases hr : s.pwt.r - 1#32 = 0#32
    · exact .inl (by rw [tick_trigLow_ends h hr])
    · exact .inl (by rw [tick_trigLow_counts h hr])
  | trigHigh =>
    by_cases hr : s.pwt.r - 1#32 = 0#32
    · exact .inl (by rw [tick_trigHigh_ends h hr])
    · exact .inl (by rw [tick_trigHigh_counts h hr])
  | waitRise =>
    by_cases hr : s.pwt.r = 0#32
    · exact .inr ⟨nofun, .inr ⟨.rise, by rw [tick_waitRise_expired h hr]⟩⟩
    · cases e with
      | false => exact .inl (by rw [tick_waitRise_low h hr])
      | true => exact .inl (by rw [tick_waitRise_high h hr])
  | waitFall =>
    by_cases hr : s.pwt.r = 0#32
    · exact .inr ⟨nofun, .inr ⟨.fall, by rw [tick_waitFall_expired h hr]⟩⟩
    · cases e with
      | false => exact .inr ⟨nofun, .inl (by rw [tick_waitFall_low h hr])⟩
      | true => exact .inl (by rw [tick_waitFall_high h hr])

/-! ## What a register write changes -/

/-- The offset of a register in the window (R24); of the reserved ones, the first. -/
def regOffset : Reg → Nat
  | .cmd => 0x00
  | .status => 0x04
  | .rdata => 0x08
  | .wbuf0 => 0x0C
  | .wbuf1 => 0x10
  | .wbuf2 => 0x14
  | .wbuf3 => 0x18
  | .reserved => 0x1C
  | .pwtTimeout => 0x20
  | .pwtStart => 0x24
  | .pwtEnd => 0x28
  | .pwtDuration => 0x2C
  | .ticks => 0x30

/-- A register that is not reserved stands at one offset only (R24). -/
theorem offset_of_regAt {off : Nat} {r : Reg} (h : regAt off = some r) (hr : r ≠ .reserved) :
    off = regOffset r := by
  unfold regAt at h
  split at h <;> cases h <;> simp [regOffset] at hr ⊢

/-- Only the registers the host itself writes differ: WBUF0 to WBUF3, PWT_TIMEOUT, and the W1C fields of
STATUS (R27, R32, R33). -/
def RegistersOnly (s t : State) : Prop :=
  t = { s with
    status := { s.status with
      btDone := t.status.btDone
      btErr := t.status.btErr
      pwtDone := t.status.pwtDone
      pwtErr := t.status.pwtErr
      cmdIllegal := t.status.cmdIllegal
      cmdReject := t.status.cmdReject }
    wbuf0 := t.wbuf0
    wbuf1 := t.wbuf1
    wbuf2 := t.wbuf2
    wbuf3 := t.wbuf3
    pwtTimeout := t.pwtTimeout }

/-- What a command written to CMD can do: set a flag of the command port, or be accepted by an idle unit
(R113). -/
theorem exec_next {i : Instr} {s t : State} (h : exec i s = .next t) :
    t = s.refuseIllegal ∨ t = s.rejectBusy ∨
      i.WellFormed ∧ s.busy i.unit = false ∧ t = accepted i s := by
  rw [exec_eq] at h
  cases h
  by_cases hw : i.wellFormed = true
  · by_cases hb : s.busy i.unit = true
    · exact .inr (.inl (by rw [if_pos hw, if_pos hb]))
    · exact .inr (.inr ⟨hw, by simpa using hb, by rw [if_pos hw, if_neg hb]⟩)
  · exact .inl (by rw [if_neg hw])

/-- What a register write can do: change the host's own registers, or, as a write to CMD, start a
command on an idle unit (R25, R113). -/
theorem regWrite_next {r : Reg} {v : Word} {s t : State} (h : regWrite r v s = .next t) :
    RegistersOnly s t ∨
    ∃ i, r = .cmd ∧ decode v = .ok i ∧ i.WellFormed ∧ s.busy i.unit = false ∧ t = accepted i s := by
  cases r
  case cmd =>
    cases hd : decode v with
    | ok i =>
      rcases exec_next ((cmdWrite_ok hd s).symm.trans h) with rfl | rfl | ⟨hw, hb, rfl⟩
      · exact .inl rfl
      · exact .inl rfl
      · exact .inr ⟨i, rfl, rfl, hw, hb, rfl⟩
    | error e =>
      cases (cmdWrite_error hd s).symm.trans h
      exact .inl rfl
  all_goals cases h; exact .inl rfl

theorem sameOperands_accepted (i : Instr) (s : State) : SameOperands s (accepted i s) := by
  cases i <;> exact ⟨rfl, rfl, rfl, rfl, rfl⟩

/-! ## What a step does to the block -/

/-- What a step can do, with a state `s'` of the same block for the one it starts from: an answer, a late
answer, a tick, a reset, a change of the host's own registers (or of none), or the acceptance of the
command the host writes to CMD. -/
theorem step_block {s t : State} (h : step s = .next t) : ∃ s', SameBlock s s' ∧
    ((∃ d, s.takeEvent.1 = .answer d ∧ t = s'.btAnswer d) ∨
     t = s'.discardLate ∨
     (∃ e, s.takeEvent.1 = .tick e ∧ t = s'.tick e) ∨
     (s.takeEvent.1 = .reset ∧ t = s'.blockReset) ∨
     RegistersOnly s' t ∨
     ∃ w i, stepWrite s = some (0x00, w) ∧ decode w = .ok i ∧ i.WellFormed ∧
       s'.busy i.unit = false ∧ t = accepted i s') := by
  have htake := sameBlock_takeEvent s
  rcases step_next h with ⟨d, he, rfl⟩ | ⟨d, -, rfl⟩ | ⟨e, he, rfl⟩ | ⟨he, rfl⟩ | ⟨-, hs⟩ |
    ⟨-, s', off, v, r, hs, hwrite, hr, hw⟩
  · exact ⟨_, htake, .inl ⟨d, he, rfl⟩⟩
  · exact ⟨_, htake, .inr (.inl rfl)⟩
  · exact ⟨_, htake, .inr (.inr (.inl ⟨e, he, rfl⟩))⟩
  · exact ⟨_, htake, .inr (.inr (.inr (.inl ⟨he, rfl⟩)))⟩
  · exact ⟨t, hs, .inr (.inr (.inr (.inr (.inl rfl))))⟩
  · refine ⟨s', hs, .inr (.inr (.inr (.inr ?_)))⟩
    rcases regWrite_next hw with hw | ⟨i, rfl, hd, hwf, hb, rfl⟩
    · exact .inl hw
    · exact .inr ⟨v, i, by rw [hwrite, offset_of_regAt hr nofun]; rfl, hd, hwf, hb, rfl⟩

end Sys2Proof.Proofs

/-! SUPPORT. The bus transactor's invariants: the outstanding primitive, the phase order of the bus trace, and
RDATA (10_state.md R31, R40, R41). -/

namespace Sys2Proof.Proofs

open Sys2Proof.Machine Sys2Proof.Laws Sys2Proof.Safety

/-! ## Steps that leave the bus transactor alone -/

/-- The BT's hidden state, RDATA, the outstanding primitive and the bus trace are the same: `SameTransactor`
without the orphans, which a late answer takes off their list. -/
abbrev SameBus (s t : State) : Prop :=
  t.bt = s.bt ∧ t.rdata = s.rdata ∧ t.outstanding = s.outstanding ∧ t.trace = s.trace

theorem sameBus_of_sameBlock {s t : State} (h : SameBlock s t) : SameBus s t := by
  obtain ⟨_, _, _, rfl⟩ := sameBlock_iff.1 h
  exact ⟨rfl, rfl, rfl, rfl⟩

theorem sameBus_of_registersOnly {s t : State} (h : RegistersOnly s t) : SameBus s t := by
  rw [h]
  exact ⟨rfl, rfl, rfl, rfl⟩

theorem sameBus_tick (s : State) (e : Level) : SameBus s (s.tick e) := by
  obtain ⟨hbt, hrdata, hout, -, htrace⟩ := sameTransactor_tick s e
  exact ⟨hbt, hrdata, hout, htrace⟩

theorem sameBus_trans {s t u : State} (h : SameBus s t) (k : SameBus t u) : SameBus s u := by
  obtain ⟨hbt, hrdata, hout, htrace⟩ := h
  obtain ⟨kbt, krdata, kout, ktrace⟩ := k
  exact ⟨kbt.trans hbt, krdata.trans hrdata, kout.trans hout, ktrace.trans htrace⟩

/-- What a step can do to the BT and its end of the bus: an answer, a reset, the acceptance of a BT command,
each on a state `s'` with the same BT and bus, or nothing. -/
theorem step_bus {s t : State} (h : step s = .next t) :
    SameBus s t ∨ ∃ s', SameBus s s' ∧
      ((∃ d, t = s'.btAnswer d) ∨ t = s'.blockReset ∨
        ∃ i, i.unit = .bt ∧ i.WellFormed ∧ t = accepted i s') := by
  obtain ⟨s', hs, hstep⟩ := step_block h
  have hbus := sameBus_of_sameBlock hs
  rcases hstep with ⟨d, -, rfl⟩ | rfl | ⟨e, -, rfl⟩ | ⟨-, rfl⟩ | hr | ⟨w, i, -, -, hw, -, rfl⟩
  · exact .inr ⟨s', hbus, .inl ⟨d, rfl⟩⟩
  · exact .inl hbus
  · exact .inl (sameBus_trans hbus (sameBus_tick s' e))
  · exact .inr ⟨s', hbus, .inr (.inl rfl)⟩
  · exact .inl (sameBus_trans hbus (sameBus_of_registersOnly hr))
  · cases i with
    | pulseMeasure => exact .inl hbus
    | readReg dev sub => exact .inr ⟨s', hbus, .inr (.inr ⟨_, rfl, hw, rfl⟩)⟩
    | writeReg dev sub val => exact .inr ⟨s', hbus, .inr (.inr ⟨_, rfl, hw, rfl⟩)⟩
    | writeBlock dev len => exact .inr ⟨s', hbus, .inr (.inr ⟨_, rfl, hw, rfl⟩)⟩

/-- An invariant of the BT and its end of the bus holds after every step when every answer, every reset and
every acceptance of a BT command establish it. -/
theorem step_keeps_bus_invariant {P Q : State → Prop}
    (hP : ∀ s t, SameBus s t → P s → P t) (hPQ : ∀ s, P s → Q s)
    (answer : ∀ s d, P s → Q (s.btAnswer d))
    (reset : ∀ s, P s → Q s.blockReset)
    (accept : ∀ s (i : Instr), P s → i.unit = .bt → i.WellFormed → Q (accepted i s))
    {s t : State} (hs : P s) (h : step s = .next t) : Q t := by
  rcases step_bus h with hbus | ⟨s', hbus, ⟨d, rfl⟩ | rfl | ⟨i, hu, hw, rfl⟩⟩
  · exact hPQ t (hP s t hbus hs)
  · exact answer s' d (hP s s' hbus hs)
  · exact reset s' (hP s s' hbus hs)
  · exact accept s' i (hP s s' hbus hs) hu hw

/-! ## The outstanding primitive -/

/-- The lengths of WRITE_BLOCK's writes (R104). -/
theorem len_of_wellFormed_writeBlock {dev : DevAddr} {len : BitVec 5}
    (h : (Instr.writeBlock dev len).WellFormed) : 1 ≤ len.toNat ∧ len.toNat ≤ 16 := by
  simpa [Instr.WellFormed, Instr.wellFormed] using h

theorem length_blockBytes (b : Block) {len : BitVec 5} (h : len.toNat ≤ 16) :
    (blockBytes b len).length = len.toNat := by
  simp [blockBytes, h]

theorem outstandingFits_of_sameBus {s t : State} (h : SameBus s t) (hs : OutstandingFits s) :
    OutstandingFits t := by
  obtain ⟨hbt, -, hout, -⟩ := h
  simpa only [OutstandingFits, hbt, hout] using hs

/-- With the BT in IDLE the invariant says that nothing is outstanding. -/
theorem outstandingFits_of_idle {s : State} (hbt : s.bt.state = .idle) (hout : s.outstanding = none) :
    OutstandingFits s := by
  simp [OutstandingFits, hbt, hout]

/-- An Ok in ADDR leads to the data phase; every other answer to an operation ends it with nothing
outstanding (R130, R137). -/
theorem outstandingFits_btAnswer (s : State) (d : Draw) (hs : OutstandingFits s) :
    OutstandingFits (s.btAnswer d) := by
  rcases btAnswer_cases s d with ⟨-, h⟩ | ⟨b, -, -, h⟩ | ⟨-, held, rdata, status, h, -, -⟩
  · rwa [h]
  · simp [h, OutstandingFits]
  · rw [h]
    exact outstandingFits_of_idle rfl rfl

/-- An accepted BT command issues the first primitive of its operation (R131, R134 to R136). -/
theorem outstandingFits_accepted (s : State) {i : Instr} (hu : i.unit = .bt) (hw : i.WellFormed) :
    OutstandingFits (accepted i s) := by
  cases i with
  | readReg dev sub => simp [accepted, OutstandingFits]
  | writeReg dev sub val => simp [accepted, OutstandingFits, isStopWrite, registerWrite]
  | writeBlock dev len =>
    obtain ⟨hmin, hmax⟩ := len_of_wellFormed_writeBlock hw
    simp [accepted, OutstandingFits, isStopWrite, blockWrite, length_blockBytes, hmin, hmax]
  | pulseMeasure => cases hu

/-- Settles O44: answers, resets and acceptances establish what their BT state asks for; no other step
touches the BT or the outstanding primitive. -/
theorem stepKeepsOnePrimitiveOutstanding : Obligations.StepKeepsOnePrimitiveOutstanding := by
  intro s t _ hs h
  exact step_keeps_bus_invariant (fun _ _ => outstandingFits_of_sameBus) (fun _ => id)
    outstandingFits_btAnswer (fun _ _ => outstandingFits_of_idle rfl rfl)
    (fun s _ _ hu hw => outstandingFits_accepted s hu hw) hs h

/-! ## The phase order of the bus trace -/

/-- What `readsFollowHeldWrites` asks of one transfer, `prev` being the one before it. -/
def followsInOrder (prev : Option Transfer) (x : Transfer) : Bool := readsFollowHeldWrites prev [x]

/-- A trace with one more transfer is in phase order when the trace is and the transfer follows its last one
in order. -/
theorem readsFollowHeldWrites_concat (prev : Option Transfer) (xs : List Transfer) (x : Transfer) :
    readsFollowHeldWrites prev (xs ++ [x]) =
      (readsFollowHeldWrites prev xs && followsInOrder (xs.getLast?.or prev) x) := by
  induction xs generalizing prev with
  | nil => simp [followsInOrder, readsFollowHeldWrites]
  | cons y ys ih =>
    rw [List.cons_append, readsFollowHeldWrites, ih, readsFollowHeldWrites, Bool.and_assoc]
    cases ys <;> simp [List.getLast?_cons]

@[simp] theorem followsInOrder_write (prev : Option Transfer) (dev : DevAddr) (bytes : List Byte)
    (hold : Bool) (a : Answer) : followsInOrder prev ⟨.write dev bytes hold, a⟩ = true := by
  simp [followsInOrder, readsFollowHeldWrites]

/-- The data phase of a READ_REG follows its own address phase, answered Ok (R138). -/
theorem followsInOrder_dataPhase (dev : DevAddr) (sub : Byte) (a : Answer) :
    followsInOrder (some ⟨addressPhase dev sub, .ok⟩) ⟨dataPhase dev, a⟩ = true := by
  simp [followsInOrder, readsFollowHeldWrites, dataPhase, addressPhase, isHeldOkWrite]

/-- A primitive that fits `isStopWrite` is a write. -/
theorem eq_write_of_isStopWrite {dev : DevAddr} {p : Option Primitive} (h : isStopWrite dev p = true) :
    ∃ d bytes hold, p = some (.write d bytes hold) := by
  unfold isStopWrite at h
  split at h
  · exact ⟨_, _, _, rfl⟩
  · cases h
  · cases h

/-- The answered primitive joins the trace in phase order, in each state of the BT. -/
theorem record_trace_ordered {s : State} (hout : OutstandingFits s) (htrace : TraceFits s) (d : Draw) :
    readsFollowHeldWrites none (s.record d).trace = true := by
  obtain ⟨hidle, haddr, hdata, hwrite⟩ := hout
  obtain ⟨hordered, hlast⟩ := htrace
  rw [State.record_trace]
  cases h : s.bt.state with
  | idle => simpa [hidle h] using hordered
  | addr => simp [haddr h, readsFollowHeldWrites_concat, hordered, addressPhase]
  | data =>
    simp [hdata h, readsFollowHeldWrites_concat, hordered, hlast h, followsInOrder_dataPhase]
  | write =>
    obtain ⟨_, _, _, hp⟩ := eq_write_of_isStopWrite (hwrite h)
    simp [hp, readsFollowHeldWrites_concat, hordered]

theorem traceFits_of_sameBus {s t : State} (h : SameBus s t) (hs : TraceFits s) : TraceFits t := by
  obtain ⟨hbt, -, -, htrace⟩ := h
  simpa only [TraceFits, hbt, htrace] using hs

/-- Outside DATA the invariant is the phase order of the trace alone. -/
theorem traceFits_of_not_data {s : State} (hbt : s.bt.state ≠ .data)
    (hordered : readsFollowHeldWrites none s.trace = true) : TraceFits s :=
  ⟨hordered, fun h => absurd h hbt⟩

/-- Every answer adds the outstanding primitive in phase order, and the one that leads to DATA adds the
address phase, answered Ok (R138). -/
theorem traceFits_btAnswer {s : State} (hout : OutstandingFits s) (htrace : TraceFits s) (d : Draw) :
    TraceFits (s.btAnswer d) := by
  have hordered := record_trace_ordered hout htrace d
  rcases btAnswer_cases s d with ⟨-, h⟩ | ⟨b, haddr, rfl, h⟩ | ⟨-, held, rdata, status, h, -, -⟩
  · rwa [h]
  · obtain ⟨-, hout_addr, -, -⟩ := hout
    rw [h]
    refine ⟨hordered, fun _ => ?_⟩
    simp [State.record_trace, hout_addr haddr, addressPhase, Primitive.answer]
  · rw [h]
    exact traceFits_of_not_data nofun hordered

/-- An accepted BT command leaves the trace alone and leads to ADDR or WRITE. -/
theorem traceFits_accepted {s : State} {i : Instr} (hu : i.unit = .bt) (hs : TraceFits s) :
    TraceFits (accepted i s) := by
  obtain ⟨hordered, -⟩ := hs
  cases i with
  | readReg dev sub => exact traceFits_of_not_data nofun hordered
  | writeReg dev sub val => exact traceFits_of_not_data nofun hordered
  | writeBlock dev len => exact traceFits_of_not_data nofun hordered
  | pulseMeasure => cases hu

/-- Settles O45: the trace grows by answers alone, and each adds the primitive its BT state has
outstanding. -/
theorem stepKeepsPhaseOrderOnTheBus : Obligations.StepKeepsPhaseOrderOnTheBus := by
  intro s t _ hout htrace h
  exact step_keeps_bus_invariant (P := fun s => OutstandingFits s ∧ TraceFits s)
    (fun _ _ hb hs => ⟨outstandingFits_of_sameBus hb hs.1, traceFits_of_sameBus hb hs.2⟩)
    (fun _ hs => hs.2)
    (fun _ d hs => traceFits_btAnswer hs.1 hs.2 d)
    (fun _ hs => traceFits_of_not_data nofun hs.2.1)
    (fun _ _ hs hu _ => traceFits_accepted hu hs.2)
    ⟨hout, htrace⟩ h

/-! ## RDATA -/

theorem rdataIsByte_setWidth {s : State} {b : Byte} (h : s.rdata = b.setWidth 32) : RdataIsByte s := by
  have hb : b.toNat < 256 := b.isLt
  rw [RdataIsByte, h, BitVec.toNat_setWidth]
  omega

/-- An answer leaves RDATA alone or writes the byte read (R143). -/
theorem rdataIsByte_btAnswer (s : State) (d : Draw) (hs : RdataIsByte s) : RdataIsByte (s.btAnswer d) := by
  rcases btAnswer_cases s d with ⟨-, h⟩ | ⟨b, -, -, h⟩ | ⟨-, held, rdata, status, h, -, rfl | ⟨b, rfl⟩⟩
  · rwa [h]
  · rwa [h]
  · rwa [h]
  · rw [h]
    exact rdataIsByte_setWidth rfl

@[simp] theorem accepted_rdata (i : Instr) (s : State) : (accepted i s).rdata = s.rdata := by
  cases i <;> rfl

/-- Settles O47: RDATA changes by an answer, which writes a zero-extended byte, or by a reset. -/
theorem stepKeepsRdataAByte : Obligations.StepKeepsRdataAByte := by
  intro s t hs h
  exact step_keeps_bus_invariant (P := RdataIsByte)
    (fun _ _ ⟨_, hr, _, _⟩ hs => by rwa [RdataIsByte, hr]) (fun _ => id)
    rdataIsByte_btAnswer (fun _ _ => by simp [RdataIsByte])
    (fun _ _ hs _ _ => by rwa [RdataIsByte, accepted_rdata]) hs h

end Sys2Proof.Proofs

/-! SUPPORT. The tick counter, the host's accesses and the block buffer (10_state.md R32, R38, R39, R45). -/

namespace Sys2Proof.Proofs

open Sys2Proof.Machine Sys2Proof.Laws Sys2Proof.Safety

/-! ## The tick counter -/

@[simp] theorem accepted_ticks (i : Instr) (s : State) : (accepted i s).ticks = s.ticks := by
  cases i <;> rfl

@[simp] theorem btAnswer_ticks (s : State) (d : Draw) : (s.btAnswer d).ticks = s.ticks := by
  rw [btAnswer_frame]

theorem ticks_of_registersOnly {s t : State} (h : RegistersOnly s t) : t.ticks = s.ticks := by
  rw [h]

/-- Settles O24: of the forms a step has, only a tick and a reset write the counter. -/
theorem counterAdvancesByOneATick : Obligations.CounterAdvancesByOneATick := by
  refine ⟨tick_ticks, fun s t h hne => ?_⟩
  obtain ⟨s', hs, hstep⟩ := step_block h
  rw [← ticks_of_sameBlock hs] at hne
  rcases hstep with ⟨d, -, rfl⟩ | rfl | ⟨e, he, -⟩ | ⟨he, -⟩ | hr | ⟨w, i, -, -, -, -, rfl⟩
  · exact absurd (btAnswer_ticks s' d) hne
  · exact absurd rfl hne
  · exact .inl ⟨e, he⟩
  · exact .inr he
  · exact absurd (ticks_of_registersOnly hr) hne
  · exact absurd (accepted_ticks i s') hne

/-- Settles O23. -/
theorem idleTimerTickOnlyCounts : Obligations.IdleTimerTickOnlyCounts :=
  fun _ e h => tick_idle h e

/-! ## Host accesses -/

/-- A 32-bit host write inside the window writes the register at its offset (R71). -/
theorem hostWrite_of_regAt {off : Nat} {r : Reg} (h : regAt off = some r) (v : Word) (s : State) :
    hostWrite off 4 v s = regWrite r v s := by
  simp only [hostWrite, accessReg, if_true, h]

/-- A 32-bit host read inside the window returns the register at its offset (R71). -/
theorem hostRead_of_regAt {off : Nat} {r : Reg} (h : regAt off = some r) (s : State) :
    hostRead off 4 s = .next (s.returnRead (s.regValue r)) := by
  simp only [hostRead, accessReg, if_true, h]

/-- Settles O32: each of the offsets is that of a register whose write does nothing, or whose value is 0. -/
theorem readOnlyAndReservedIgnoreWrites : Obligations.ReadOnlyAndReservedIgnoreWrites := by
  intro s v
  constructor
  · intro off hoff
    fin_cases hoff <;> rfl
  · intro off hoff
    fin_cases hoff <;> rfl

/-! ## The block buffer -/

/-- Byte `i` of the block buffer (R32). -/
theorem getElem_block (s : State) (i : Fin 16) :
    s.block[i] =
      (([s.wbuf0, s.wbuf1, s.wbuf2, s.wbuf3].getD (i.val / 4) 0#32) >>> (8 * (i.val % 4))).setWidth 8 := by
  rw [BitVec.setWidth_ushiftRight_eq_extractLsb]
  fin_cases i <;> rfl

/-- Byte `i` of the bytes a WRITE_BLOCK sends is byte `i` of the buffer (R74, R136). -/
theorem getElem?_blockBytes (b : Block) (len : BitVec 5) {i : Nat} (hi : i < len.toNat) (h16 : i < 16) :
    (blockBytes b len)[i]? = some b[i] := by
  simp [blockBytes, hi, h16]

/-- WRITE_BLOCK's acceptance where the BT is idle. -/
theorem exec_writeBlock_idle {s : State} {dev : DevAddr} {len : BitVec 5}
    (hw : (Instr.writeBlock dev len).WellFormed) (hidle : s.status.btBusy = false) :
    exec (.writeBlock dev len) s = .next (accepted (.writeBlock dev len) s) := by
  rw [exec_eq, if_pos hw, if_neg (by simpa [State.busy, Instr.unit] using hidle)]

/-- Settles O12: the acceptance of `accepted`, with the bytes of the write read off the buffer. -/
theorem writeBlockIsAcceptedWhenIdle : Obligations.WriteBlockIsAcceptedWhenIdle := by
  intro s dev len hidle hmin hmax
  have hw : (Instr.writeBlock dev len).WellFormed := decide_eq_true ⟨hmin, hmax⟩
  refine ⟨_, blockBytes s.block len, exec_writeBlock_idle hw hidle, rfl, length_blockBytes _ hmax,
    fun i hi => ?_, rfl, word_btAccept s.status, rfl, rfl, rfl, sameOperands_accepted _ s,
    ⟨rfl, rfl, rfl, rfl, rfl, rfl⟩, rfl, rfl, rfl, rfl⟩
  have h16 : i < 16 := by omega
  rw [getElem?_blockBytes _ _ hi h16]
  exact congrArg some (getElem_block s ⟨i, h16⟩)

/-- A write to a register of the block buffer is what a read of it then returns, and every other register
reads as before (R32). -/
theorem regWrite_wbuf {r : Reg} (hr : r ∈ [Reg.wbuf0, .wbuf1, .wbuf2, .wbuf3]) (v : Word) (s : State) :
    ∃ t, regWrite r v s = .next t ∧ t.regValue r = v ∧ ∀ r', r' ≠ r → t.regValue r' = s.regValue r' := by
  fin_cases hr <;> exact ⟨_, rfl, rfl, fun r' hne => by cases r' <;> simp_all [State.regValue]⟩

/-- The offsets of the block buffer (R24). -/
theorem regAt_wbuf {off : Nat} (h : off ∈ [0x0C, 0x10, 0x14, 0x18]) :
    ∃ r ∈ [Reg.wbuf0, .wbuf1, .wbuf2, .wbuf3], regAt off = some r := by
  fin_cases h <;> simp [regAt]

/-- Each operand register that differs in `t` holds there what the write `w` wrote to its offset. -/
abbrev OperandsWrittenBy (w : Option (Nat × Word)) (s t : State) : Prop :=
  (t.wbuf0 ≠ s.wbuf0 → w = some (0x0C, t.wbuf0)) ∧
  (t.wbuf1 ≠ s.wbuf1 → w = some (0x10, t.wbuf1)) ∧
  (t.wbuf2 ≠ s.wbuf2 → w = some (0x14, t.wbuf2)) ∧
  (t.wbuf3 ≠ s.wbuf3 → w = some (0x18, t.wbuf3))

theorem operandsWrittenBy_of_sameOperands {s t : State} (h : SameOperands s t) (w : Option (Nat × Word)) :
    OperandsWrittenBy w s t := by
  obtain ⟨h0, h1, h2, h3, -⟩ := h
  exact ⟨absurd h0, absurd h1, absurd h2, absurd h3⟩

/-- An acceptance keeps the operand registers, and a command port's flag is none of them. -/
theorem sameOperands_of_cmdWrite {w : Word} {s t : State} (h : cmdWrite w s = .next t) :
    SameOperands s t := by
  cases hd : decode w with
  | ok i =>
    rcases exec_next ((cmdWrite_ok hd s).symm.trans h) with rfl | rfl | ⟨-, -, rfl⟩
    · exact ⟨rfl, rfl, rfl, rfl, rfl⟩
    · exact ⟨rfl, rfl, rfl, rfl, rfl⟩
    · exact sameOperands_accepted i s
  | error e =>
    cases (cmdWrite_error hd s).symm.trans h
    exact ⟨rfl, rfl, rfl, rfl, rfl⟩

/-- A register write changes an operand register only at its offset, to the value written (R32). -/
theorem operandsWrittenBy_of_regWrite {off : Nat} {r : Reg} {v : Word} {s t : State}
    (hr : regAt off = some r) (h : regWrite r v s = .next t) : OperandsWrittenBy (some (off, v)) s t := by
  have hoff : r ≠ .reserved → off = regOffset r := offset_of_regAt hr
  cases r
  case cmd => exact operandsWrittenBy_of_sameOperands (sameOperands_of_cmdWrite h) _
  all_goals
    cases h
    simp [OperandsWrittenBy, hoff, regOffset]

theorem operandsWrittenBy_congr {w : Option (Nat × Word)} {s s' t : State} (hs : SameOperands s s')
    (h : OperandsWrittenBy w s' t) : OperandsWrittenBy w s t := by
  obtain ⟨h0, h1, h2, h3, -⟩ := hs
  simpa only [OperandsWrittenBy, h0, h1, h2, h3] using h

/-- A step that is no reset changes an operand register only by the host's write to its offset. -/
theorem step_operands {s t : State} (h : step s = .next t) :
    s.takeEvent.1 = .reset ∨ OperandsWrittenBy (stepWrite s) s t := by
  have htake := sameOperands_of_sameBlock (sameBlock_takeEvent s)
  rcases step_next h with ⟨d, -, rfl⟩ | ⟨d, -, rfl⟩ | ⟨e, -, rfl⟩ | ⟨he, -⟩ | ⟨-, hs⟩ |
    ⟨-, s', off, v, r, hs, hwrite, hr, hw⟩
  · exact .inr (operandsWrittenBy_congr htake
      (operandsWrittenBy_of_sameOperands (sameOperands_btAnswer _ d) _))
  · exact .inr (operandsWrittenBy_of_sameOperands htake _)
  · exact .inr (operandsWrittenBy_congr htake
      (operandsWrittenBy_of_sameOperands (sameOperands_tick _ e) _))
  · exact .inl he
  · exact .inr (operandsWrittenBy_of_sameOperands (sameOperands_of_sameBlock hs) _)
  · rw [hwrite]
    exact .inr (operandsWrittenBy_congr (sameOperands_of_sameBlock hs)
      (operandsWrittenBy_of_regWrite hr hw))

/-- Settles O35: the packing, the read-back, what a step changes, and the acceptance. -/
theorem blockBufferHoldsWhatTheHostWrote : Obligations.BlockBufferHoldsWhatTheHostWrote := by
  refine ⟨getElem_block, fun s v off hoff => ?_, fun s t => step_operands, ?_⟩
  · obtain ⟨r, hr, hat⟩ := regAt_wbuf hoff
    obtain ⟨t, hw, hread, hother⟩ := regWrite_wbuf hr v s
    refine ⟨t, (hostWrite_of_regAt hat v s).trans hw, ?_, fun off' hoff' hne => ?_⟩
    · rw [hostRead_of_regAt hat, hread]
      rfl
    · have hsome : ∃ r', regAt off' = some r' := by fin_cases hoff' <;> exact ⟨_, rfl⟩
      obtain ⟨r', hat'⟩ := hsome
      refine ⟨r', hat', hother r' ?_⟩
      rintro rfl
      have hres : r' ≠ .reserved := by rintro rfl; simp at hr
      exact hne ((offset_of_regAt hat' hres).trans (offset_of_regAt hat hres).symm)
  · intro s t dev len hw hidle h
    cases (exec_writeBlock_idle hw hidle).symm.trans h
    exact ⟨rfl, rfl⟩

end Sys2Proof.Proofs

/-! SUPPORT. The host's data registers beside an operation, the units' reports in STATUS, the start of an
operation by a write to CMD, and the state after reset (10_state.md R25, R27, R33, R48). -/

namespace Sys2Proof.Proofs

open Sys2Proof.Machine Sys2Proof.Laws Sys2Proof.Safety

/-! ## The host's data registers beside an operation -/

/-- `s` with other values in the host's data registers, WBUF0 to WBUF3 and PWT_TIMEOUT. -/
def withOperands (s : State) (w0 w1 w2 w3 timeout : Word) : State :=
  { s with wbuf0 := w0, wbuf1 := w1, wbuf2 := w2, wbuf3 := w3, pwtTimeout := timeout }

/-- An answer neither reads nor writes the host's data registers (R85). -/
theorem btAnswer_withOperands (s : State) (w0 w1 w2 w3 timeout : Word) (d : Draw) :
    (withOperands s w0 w1 w2 w3 timeout).btAnswer d = withOperands (s.btAnswer d) w0 w1 w2 w3 timeout := by
  cases h : s.bt.state <;> cases d <;> simp only [State.btAnswer, withOperands, h] <;> rfl

/-- The timer's step neither reads nor writes the host's data registers: the budget is the latched one (R33,
R85). -/
theorem pwtTick_withOperands (s : State) (w0 w1 w2 w3 timeout n : Word) (e : Level) :
    (withOperands s w0 w1 w2 w3 timeout).pwtTick n e = withOperands (s.pwtTick n e) w0 w1 w2 w3 timeout := by
  cases h : s.pwt.state <;> simp only [State.pwtTick, withOperands, h]
  case trigLow =>
    by_cases hr : s.pwt.r - 1#32 = 0#32 <;>
      simp only [trigLowTick, State.pwtCountDown_pwt, hr, ↓reduceIte] <;> rfl
  case trigHigh =>
    by_cases hr : s.pwt.r - 1#32 = 0#32 <;>
      simp only [trigHighTick, State.pwtCountDown_pwt, hr, ↓reduceIte] <;> rfl
  case waitRise =>
    by_cases hr : s.pwt.r = 0#32 <;> cases e <;> simp only [waitRiseTick, hr, ↓reduceIte] <;> rfl
  case waitFall =>
    by_cases hr : s.pwt.r = 0#32 <;> cases e <;> simp only [waitFallTick, hr, ↓reduceIte] <;> rfl

theorem tick_withOperands (s : State) (w0 w1 w2 w3 timeout : Word) (e : Level) :
    (withOperands s w0 w1 w2 w3 timeout).tick e = withOperands (s.tick e) w0 w1 w2 w3 timeout :=
  congrArg (fun s' : State => { s' with ticks := s.ticks + 1#32 })
    (pwtTick_withOperands s w0 w1 w2 w3 timeout s.ticks e)

/-- Writing a register of the host's data is `withOperands` with that one value, and what it does depends on
the state through the values of these registers alone. -/
theorem hostWrite_operand {off : Nat} (h : off ∈ [0x0C, 0x10, 0x14, 0x18, 0x20]) (v : Word) (s : State) :
    ∃ w0 w1 w2 w3 timeout, ∀ s', SameOperands s s' →
      hostWrite off 4 v s' = .next (withOperands s' w0 w1 w2 w3 timeout) := by
  fin_cases h
  · exact ⟨v, s.wbuf1, s.wbuf2, s.wbuf3, s.pwtTimeout, fun s' ⟨_, h1, h2, h3, h4⟩ => by
      rw [← h1, ← h2, ← h3, ← h4]; rfl⟩
  · exact ⟨s.wbuf0, v, s.wbuf2, s.wbuf3, s.pwtTimeout, fun s' ⟨h0, _, h2, h3, h4⟩ => by
      rw [← h0, ← h2, ← h3, ← h4]; rfl⟩
  · exact ⟨s.wbuf0, s.wbuf1, v, s.wbuf3, s.pwtTimeout, fun s' ⟨h0, h1, _, h3, h4⟩ => by
      rw [← h0, ← h1, ← h3, ← h4]; rfl⟩
  · exact ⟨s.wbuf0, s.wbuf1, s.wbuf2, v, s.pwtTimeout, fun s' ⟨h0, h1, h2, _, h4⟩ => by
      rw [← h0, ← h1, ← h2, ← h4]; rfl⟩
  · exact ⟨s.wbuf0, s.wbuf1, s.wbuf2, s.wbuf3, v, fun s' ⟨h0, h1, h2, h3, _⟩ => by
      rw [← h0, ← h1, ← h2, ← h3]; rfl⟩

/-- Settles O36: the write is `withOperands`, with which answers and ticks commute. -/
theorem operandWritesLeaveOperationsAlone : Obligations.OperandWritesLeaveOperationsAlone := by
  intro s t v off hoff h
  obtain ⟨w0, w1, w2, w3, timeout, hw⟩ := hostWrite_operand hoff v s
  cases (hw s ⟨rfl, rfl, rfl, rfl, rfl⟩).symm.trans h
  refine ⟨rfl, rfl, rfl, fun d => ?_, fun e => ?_⟩
  · rw [hw _ (sameOperands_btAnswer s d), btAnswer_withOperands]
  · rw [hw _ (sameOperands_tick s e), tick_withOperands]

/-! ## The reports of the units -/

/-- The BT's fields of STATUS that the host cannot clear: busy, code and step. -/
abbrev SameBtReport (f g : Status) : Prop :=
  g.btBusy = f.btBusy ∧ g.btErrCode = f.btErrCode ∧ g.btErrStep = f.btErrStep

/-- The PWT's fields of STATUS that the host cannot clear: busy and phase. -/
abbrev SamePwtReport (f g : Status) : Prop := g.pwtBusy = f.pwtBusy ∧ g.pwtErrPhase = f.pwtErrPhase

/-- The host's turn writes a word to CMD that decodes to a command of the unit `u`. -/
abbrev WritesCommandOf (u : BlockUnit) (s : State) : Prop :=
  ∃ w i, stepWrite s = some (0x00, w) ∧ decode w = .ok i ∧ i.unit = u

theorem sameReports_of_registersOnly {s t : State} (h : RegistersOnly s t) :
    SameBtReport s.status t.status ∧ SamePwtReport s.status t.status := by
  rw [h]
  exact ⟨⟨rfl, rfl, rfl⟩, rfl, rfl⟩

theorem samePwtReport_btAnswer (s : State) (d : Draw) : SamePwtReport s.status (s.btAnswer d).status := by
  rcases btAnswer_status_cases s d with h | ⟨-, h | ⟨k, st, h⟩⟩ <;> rw [h] <;> exact ⟨rfl, rfl⟩

theorem sameBtReport_tick (s : State) (e : Level) : SameBtReport s.status (s.tick e).status := by
  rcases tick_status_cases s e with h | ⟨-, h | ⟨ph, h⟩⟩ <;> rw [h] <;> exact ⟨rfl, rfl, rfl⟩

/-- What a step does to the BT's report: a reset clears it, nothing happens to it, an operation in flight
ends, or an operation starts by a command the host writes to CMD (R25, R27, R28). -/
theorem step_btReport {s t : State} (h : step s = .next t) :
    s.takeEvent.1 = .reset ∧ t.status = Status.zero ∨ SameBtReport s.status t.status ∨
    s.bt.state ≠ .idle ∧ t.status.btBusy = false ∨
    s.status.btBusy = false ∧ t.status.btBusy = true ∧ WritesCommandOf .bt s := by
  obtain ⟨s', hs, hstep⟩ := step_block h
  obtain ⟨hbt, -⟩ := sameBus_of_sameBlock hs
  rw [← status_of_sameBlock hs, ← hbt]
  rcases hstep with ⟨d, -, rfl⟩ | rfl | ⟨e, -, rfl⟩ | ⟨he, rfl⟩ | hr | ⟨w, i, hwrite, hd, -, hb, rfl⟩
  · rcases btAnswer_status_cases s' d with h | ⟨hbusy, h | ⟨k, st, h⟩⟩
    · exact .inr (.inl (by rw [h]; exact ⟨rfl, rfl, rfl⟩))
    · exact .inr (.inr (.inl ⟨hbusy, by rw [h]; rfl⟩))
    · exact .inr (.inr (.inl ⟨hbusy, by rw [h]; rfl⟩))
  · exact .inr (.inl ⟨rfl, rfl, rfl⟩)
  · exact .inr (.inl (sameBtReport_tick s' e))
  · exact .inl ⟨he, rfl⟩
  · exact .inr (.inl (sameReports_of_registersOnly hr).1)
  · cases i with
    | pulseMeasure => exact .inr (.inl ⟨rfl, rfl, rfl⟩)
    | readReg dev sub => exact .inr (.inr (.inr ⟨hb, rfl, w, _, hwrite, hd, rfl⟩))
    | writeReg dev sub val => exact .inr (.inr (.inr ⟨hb, rfl, w, _, hwrite, hd, rfl⟩))
    | writeBlock dev len => exact .inr (.inr (.inr ⟨hb, rfl, w, _, hwrite, hd, rfl⟩))

/-- What a step does to the PWT's report, with the same four forms (R25, R27, R29). -/
theorem step_pwtReport {s t : State} (h : step s = .next t) :
    s.takeEvent.1 = .reset ∧ t.status = Status.zero ∨ SamePwtReport s.status t.status ∨
    s.pwt.state ≠ .idle ∧ t.status.pwtBusy = false ∨
    s.status.pwtBusy = false ∧ t.status.pwtBusy = true ∧ WritesCommandOf .pwt s := by
  obtain ⟨s', hs, hstep⟩ := step_block h
  rw [← status_of_sameBlock hs, ← pwt_of_sameBlock hs]
  rcases hstep with ⟨d, -, rfl⟩ | rfl | ⟨e, -, rfl⟩ | ⟨he, rfl⟩ | hr | ⟨w, i, hwrite, hd, -, hb, rfl⟩
  · exact .inr (.inl (samePwtReport_btAnswer s' d))
  · exact .inr (.inl ⟨rfl, rfl⟩)
  · rcases tick_status_cases s' e with h | ⟨hbusy, h | ⟨ph, h⟩⟩
    · exact .inr (.inl (by rw [h]; exact ⟨rfl, rfl⟩))
    · exact .inr (.inr (.inl ⟨hbusy, by rw [h]; rfl⟩))
    · exact .inr (.inr (.inl ⟨hbusy, by rw [h]; rfl⟩))
  · exact .inl ⟨he, rfl⟩
  · exact .inr (.inl (sameReports_of_registersOnly hr).2)
  · cases i with
    | pulseMeasure => exact .inr (.inr (.inr ⟨hb, rfl, w, _, hwrite, hd, rfl⟩))
    | readReg dev sub => exact .inr (.inl ⟨rfl, rfl⟩)
    | writeReg dev sub val => exact .inr (.inl ⟨rfl, rfl⟩)
    | writeBlock dev len => exact .inr (.inl ⟨rfl, rfl⟩)

/-- Settles O30: the write is `writeOneToClear`; a report that changes does so with its busy bit, which in a
consistent state is 1 while an operation is in flight. -/
theorem statusWriteClearsOnlyWrittenOnes : Obligations.StatusWriteClearsOnlyWrittenOnes := by
  refine ⟨fun s v => ⟨_, rfl, word_writeOneToClear s.status v, rfl⟩, fun s t hs h => ?_⟩
  obtain ⟨hbt, hpwt, -⟩ := hs
  constructor
  · intro hne
    rcases step_btReport h with ⟨he, -⟩ | ⟨-, hcode, hstep⟩ | ⟨hstate, hb⟩ | ⟨hb, hb', -⟩
    · exact .inr he
    · exact absurd hne (by simp [hcode, hstep])
    · exact .inl (by simp [hb, hbt.2 hstate])
    · exact .inl (by simp [hb, hb'])
  · intro hne
    rcases step_pwtReport h with ⟨he, -⟩ | ⟨-, hphase⟩ | ⟨hstate, hb⟩ | ⟨hb, hb', -⟩
    · exact .inr he
    · exact absurd hphase hne
    · exact .inl (by simp [hb, hpwt.2 hstate])
    · exact .inl (by simp [hb, hb'])

/-! ## The start of an operation -/

/-- A unit turns busy only by a command for it that the host writes to CMD (R25). -/
theorem step_starts {s t : State} (h : step s = .next t) {u : BlockUnit} (hidle : s.busy u = false)
    (hbusy : t.busy u = true) : WritesCommandOf u s := by
  cases u with
  | bt =>
    rcases step_btReport h with ⟨-, hz⟩ | ⟨hb, -⟩ | ⟨-, hb⟩ | ⟨-, -, hw⟩
    · simp [State.busy, hz, Status.zero] at hbusy
    · simp_all [State.busy]
    · simp [State.busy, hb] at hbusy
    · exact hw
  | pwt =>
    rcases step_pwtReport h with ⟨-, hz⟩ | ⟨hb, -⟩ | ⟨-, hb⟩ | ⟨-, -, hw⟩
    · simp [State.busy, hz, Status.zero] at hbusy
    · simp_all [State.busy]
    · simp [State.busy, hb] at hbusy
    · exact hw

/-- A host write to CMD runs the command its word decodes to (R25). -/
theorem hostWrite_cmd_ok {w : Word} {i : Instr} (h : decode w = .ok i) (s : State) :
    hostWrite 0x00 4 w s = exec i s :=
  cmdWrite_ok h s

/-- Settles O37. -/
theorem operationsStartOnlyByCommandWrites : Obligations.OperationsStartOnlyByCommandWrites := by
  refine ⟨fun s t u h => step_starts h, fun _ => rfl, fun s w => ?_⟩
  cases hd : decode w with
  | ok i => exact hostWrite_cmd_ok hd s
  | error r => exact cmdWrite_error hd s

/-- A host's turn with no driver call under way runs the first operation of the program (R75). -/
theorem hostTurn_of_program {s : State} {op : HostOp} {ops : List HostOp} (hc : s.host.call = none)
    (hp : s.host.program = op :: ops) :
    hostTurn s = runOp op { s with host := { s.host with program := ops } } := by
  simp only [hostTurn, hc, State.takeOp, hp]

/-- Settles O7: each of the three forms of the operation is a host write of the word to CMD. -/
theorem stepRunsTheDecodedCommand : Obligations.StepRunsTheDecodedCommand := by
  intro s es ops w i he hc hd
  have hstep {op : HostOp} (hp : s.host.program = op :: ops) :
      step s = runOp op { s with events := es, host := { s.host with program := ops } } :=
    (step_of_events_cons he).trans (hostTurn_of_program (s := { s with events := es }) hc hp)
  refine ⟨fun hp => ?_, fun c ha hp => ?_, fun hp => ?_⟩
  · rw [hstep hp]
    exact hostWrite_cmd_ok hd _
  · rw [hstep hp]
    simp only [runOp, ha]
    exact hostWrite_cmd_ok hd _
  · rw [hstep hp]
    simp only [runOp, memWrite, Params.offset, le_refl, if_true, Nat.sub_self]
    exact hostWrite_cmd_ok hd _

/-! ## Reset -/

/-- Settles O39: every value is read off the definition of the state after reset. -/
theorem resetStateHasTheRulesValues : Obligations.ResetStateHasTheRulesValues := by
  refine ⟨?_, rfl, rfl, rfl, rfl, rfl, rfl, rfl, rfl, rfl, rfl, rfl, rfl, rfl, rfl, rfl⟩
  exact (by decide : Status.zero.word = 0x00000000#32)

/-- A tick count above 0 that fits a word is not 0 as a word. -/
theorem ofNat_succ_ne_zero (n : Fin 4294967295) : BitVec.ofNat 32 (n.val + 1) ≠ 0#32 := by
  intro h
  have hn := congrArg BitVec.toNat h
  simp only [BitVec.toNat_ofNat] at hn
  omega

/-- The parameters out of reset are legal whatever their free values are (R7). -/
theorem legal_params : Config.params.Legal :=
  ⟨Nat.mul_mod_right _ _, ofNat_succ_ne_zero _, ofNat_succ_ne_zero _, Nat.succ_pos _⟩

/-- Settles O42: after reset both units are idle, STATUS, the results and RDATA are 0, and nothing is
outstanding or on the trace. -/
theorem invariantsHoldAtReset : Obligations.InvariantsHoldAtReset := by
  have hconsistent : Consistent State.reset := by simp [Consistent, State.reset, Status.zero]
  have hmeasure : MeasurementFits State.reset := by simp [MeasurementFits, State.reset, Status.zero]
  exact ⟨hconsistent, outstandingFits_of_idle rfl rfl, traceFits_of_not_data nofun rfl, hmeasure,
    (by decide : (0#32).toNat < 256), legal_params⟩

end Sys2Proof.Proofs

/-! SUPPORT. The whole of a WRITE_REG and a WRITE_BLOCK from an idle BT, and which host accesses are inside
the contract (20_memory.md R71 to R76, 41_bus_transactor.md R135, R136). -/

namespace Sys2Proof.Proofs

open Sys2Proof.Machine Sys2Proof.Laws Sys2Proof.Safety

/-! ## The operations of one write -/

/-- A well-formed command whose unit is idle is accepted (R113). -/
theorem exec_of_idle {i : Instr} {s : State} (hw : i.WellFormed) (hidle : s.busy i.unit = false) :
    exec i s = .next (accepted i s) := by
  rw [exec_eq, if_pos hw, if_neg (by simp [hidle])]

/-- STATUS over a whole BT operation that succeeds: BT_DONE alone of bits 6 to 0 (R131, R132). -/
theorem word_btAccept_btFinishOk (f : Status) :
    f.btAccept.btFinishOk.word = f.word &&& ~~~0x0000007F#32 ||| 0x00000002#32 := by
  apply word_ext
  intro i hi
  simp only [BitVec.getLsbD_or, BitVec.getLsbD_and, BitVec.getLsbD_not, word_getLsbD _ hi, statusBits]
  interval_cases i <;> simp

/-- STATUS over a whole BT operation whose first primitive fails (R131, R132). -/
theorem word_btAccept_btFinishErr_first (f : Status) (k : BusErrorKind) :
    (f.btAccept.btFinishErr k .first).word =
      f.word &&& ~~~0x0000007F#32 ||| (if k = .noAck then 0x0000002E#32 else 0x00000036#32) := by
  cases k with
  | noAck => exact word_btFinishErr_noAck_first f
  | timeout => exact word_btFinishErr_timeout_first f

/-- `s` with an operation of one write accepted: the BT's hidden state is `bt`, and the write `p` is
outstanding (R131, R135, R136). -/
def writeBegun (s : State) (bt : Bt) (p : Primitive) : State :=
  { s with bt := bt, outstanding := some p, status := s.status.btAccept }

theorem accepted_writeReg (s : State) (dev : DevAddr) (sub val : Byte) :
    accepted (.writeReg dev sub val) s =
      writeBegun s { s.bt with state := .write, dev := dev, sub := sub, val := val }
        (.write dev [sub, val] false) := rfl

theorem accepted_writeBlock (s : State) (dev : DevAddr) (len : BitVec 5) :
    accepted (.writeBlock dev len) s =
      writeBegun s { s.bt with state := .write, dev := dev, len := len, buf := s.block }
        (.write dev (s.block.toList.take len.toNat) false) := rfl

/-- `s` with an operation of one write ended: the transfer `x` is on the trace, nothing is outstanding, and
the BT is back in IDLE with `status` reported (R132). -/
def writeEnded (s : State) (bt : Bt) (x : Transfer) (status : Status) : State :=
  { s with
    bt := { bt with state := .idle }
    outstanding := none
    trace := s.trace ++ [x]
    status := status }

section
variable {s : State} {bt : Bt} {dev : DevAddr} {bytes : List Byte}

theorem btAnswer_writeBegun_ok (h : bt.state = .write) (b : Byte) :
    (writeBegun s bt (.write dev bytes false)).btAnswer (.ok b) =
      writeEnded s bt ⟨.write dev bytes false, .ok⟩ s.status.btAccept.btFinishOk :=
  btAnswer_write_ok h b

theorem btAnswer_writeBegun_error (h : bt.state = .write) (k : BusErrorKind) :
    (writeBegun s bt (.write dev bytes false)).btAnswer (.error k) =
      writeEnded s bt ⟨.write dev bytes false, .error k⟩ (s.status.btAccept.btFinishErr k .first) :=
  btAnswer_write_error h k

/-- An operation of one write leaves everything but the BT, its end of the bus and STATUS alone (R74). -/
theorem writeEnded_frame (x : Transfer) (status : Status) :
    SameOperands s (writeEnded s bt x status) ∧ SameTimer s (writeEnded s bt x status) ∧
      SameEnvironment s (writeEnded s bt x status) :=
  ⟨⟨rfl, rfl, rfl, rfl, rfl⟩, ⟨rfl, rfl, rfl, rfl, rfl, rfl⟩, rfl, rfl, rfl, rfl⟩

end

/-- `u` is what the answer `d` to the one write of `bytes` to `dev` leaves of an operation begun in `s`: the
BT in IDLE, the write with its answer on the trace, the report in STATUS, and the rest as it was. -/
abbrev EndsOneWrite (s : State) (dev : DevAddr) (bytes : List Byte) (d : Draw) (u : State) : Prop :=
  u.bt.state = .idle ∧ u.bt.held = s.bt.held ∧ u.outstanding = none ∧ u.rdata = s.rdata ∧
  (∀ b, d = .ok b →
    u.trace = s.trace ++ [⟨.write dev bytes false, .ok⟩] ∧
    u.status.word = s.status.word &&& ~~~0x0000007F#32 ||| 0x00000002#32) ∧
  (∀ k, d = .error k →
    u.trace = s.trace ++ [⟨.write dev bytes false, .error k⟩] ∧
    u.status.word =
      s.status.word &&& ~~~0x0000007F#32 ||| (if k = .noAck then 0x0000002E#32 else 0x00000036#32)) ∧
  SameOperands s u ∧ SameTimer s u ∧ SameEnvironment s u

/-- Either answer to the write ends the operation: an Ok with success, an error at step 1 (R132). -/
theorem btAnswer_writeBegun_ends {s : State} {bt : Bt} (hstate : bt.state = .write)
    (hheld : bt.held = s.bt.held) (dev : DevAddr) (bytes : List Byte) (d : Draw) :
    EndsOneWrite s dev bytes d ((writeBegun s bt (.write dev bytes false)).btAnswer d) := by
  cases d with
  | ok b =>
    rw [btAnswer_writeBegun_ok hstate]
    exact ⟨rfl, hheld, rfl, rfl, fun _ _ => ⟨rfl, word_btAccept_btFinishOk s.status⟩, nofun,
      writeEnded_frame _ _⟩
  | error k =>
    rw [btAnswer_writeBegun_error hstate]
    refine ⟨rfl, hheld, rfl, rfl, nofun, fun k' hk => ?_, writeEnded_frame _ _⟩
    cases hk
    exact ⟨rfl, word_btAccept_btFinishErr_first s.status k⟩

/-- Settles O17: the acceptance begins the operation of the one write [sub, val], and its answer ends it. -/
theorem writeRegRunsItsOneWrite : Obligations.WriteRegRunsItsOneWrite := by
  intro s dev sub val d hidle
  refine ⟨_, exec_of_idle rfl hidle, ?_⟩
  rw [accepted_writeReg]
  exact btAnswer_writeBegun_ends (by rfl) (by rfl) dev _ d

/-- Settles O18: the acceptance begins the operation of the one write of the buffer's first `len` bytes, and
its answer ends it. -/
theorem writeBlockRunsItsOneWrite : Obligations.WriteBlockRunsItsOneWrite := by
  intro s dev len d hidle hmin hmax
  refine ⟨_, exec_of_idle (decide_eq_true ⟨hmin, hmax⟩) hidle, ?_⟩
  rw [accepted_writeBlock]
  exact btAnswer_writeBegun_ends (by rfl) (by rfl) dev _ d

/-! ## Accesses inside and outside the contract -/

/-- The offsets of the window are the multiples of 4 below 0x40 (R24, R71). -/
theorem exists_regAt_iff {off : Nat} : (∃ r, regAt off = some r) ↔ off % 4 = 0 ∧ off < 0x40 := by
  constructor
  · rintro ⟨r, h⟩
    unfold regAt at h
    split at h <;> cases h <;> simp
  · rintro ⟨halign, hwindow⟩
    obtain ⟨k, rfl⟩ := Nat.dvd_of_mod_eq_zero halign
    have hk : k < 16 := by omega
    interval_cases k <;> exact ⟨_, rfl⟩

/-- An access of another width, misaligned or past the window reaches no register (R72, U3). -/
theorem accessReg_eq_none {off n : Nat} (h : n ≠ 4 ∨ off % 4 ≠ 0 ∨ 0x40 ≤ off) : accessReg off n = none := by
  by_cases hn : n = 4
  · rw [accessReg, if_pos hn, Option.eq_none_iff_forall_ne_some]
    intro r hr
    have hoff := exists_regAt_iff.1 ⟨r, hr⟩
    omega
  · rw [accessReg, if_neg hn]

theorem hostRead_of_accessReg_none {off n : Nat} (h : accessReg off n = none) (s : State) :
    hostRead off n s = .refused .hostAccessOutsideContract := by
  rw [hostRead, h]

theorem hostWrite_of_accessReg_none {off n : Nat} (h : accessReg off n = none) (v : Word) (s : State) :
    hostWrite off n v s = .refused .hostAccessOutsideContract := by
  rw [hostWrite, h]

/-- A host address at or above BASE is the register access at its offset (R23, R71). -/
theorem memRead_base_add (s : State) (off n : Nat) : memRead (s.par.base + off) n s = hostRead off n s := by
  simp [memRead, Params.offset]

theorem memWrite_base_add (s : State) (off n : Nat) (v : Word) :
    memWrite (s.par.base + off) n v s = hostWrite off n v s := by
  simp [memWrite, Params.offset]

/-- A host address below BASE is outside the window (U3). -/
theorem memRead_below_base {s : State} {addr : Nat} (h : addr < s.par.base) (n : Nat) :
    memRead addr n s = .refused .hostAccessOutsideContract := by
  simp [memRead, Params.offset, not_le.2 h]

theorem memWrite_below_base {s : State} {addr : Nat} (h : addr < s.par.base) (n : Nat) (v : Word) :
    memWrite addr n v s = .refused .hostAccessOutsideContract := by
  simp [memWrite, Params.offset, not_le.2 h]

/-- A register write always completes: a write to CMD as its command or as an illegal word (R113). -/
theorem exists_regWrite_next (r : Reg) (v : Word) (s : State) : ∃ t, regWrite r v s = .next t := by
  cases r
  case cmd =>
    cases hd : decode v with
    | ok i => exact ⟨_, (cmdWrite_ok hd s).trans (exec_eq i s)⟩
    | error e => exact ⟨_, cmdWrite_error hd s⟩
  all_goals exact ⟨_, rfl⟩

/-- Settles O34: below BASE no offset exists; from BASE on, an access reaches the register at its offset, or
none because BASE is a multiple of 0x40. -/
theorem accessOutsideContractIsRefused : Obligations.AccessOutsideContractIsRefused := by
  intro s addr n v hlegal
  obtain ⟨hbase, -⟩ := hlegal
  constructor
  · intro hout
    by_cases hbelow : addr < s.par.base
    · exact ⟨memRead_below_base hbelow n, memWrite_below_base hbelow n v⟩
    · obtain ⟨off, rfl⟩ := Nat.exists_eq_add_of_le (not_lt.1 hbelow)
      have hnone : accessReg off n = none := accessReg_eq_none (by omega)
      rw [memRead_base_add, memWrite_base_add]
      exact ⟨hostRead_of_accessReg_none hnone s, hostWrite_of_accessReg_none hnone v s⟩
  · rintro off halign hwindow rfl
    obtain ⟨r, hat⟩ := exists_regAt_iff.2 ⟨halign, hwindow⟩
    rw [memRead_base_add, memWrite_base_add]
    refine ⟨rfl, rfl, ⟨_, hostRead_of_regAt hat s⟩, ?_⟩
    rw [hostWrite_of_regAt hat]
    exact exists_regWrite_next r v s

/-- Settles O33: the offset is a register's, and the value named for the offset is that register's. -/
theorem hostReadsHaveNoSideEffect : Obligations.HostReadsHaveNoSideEffect := by
  intro s off halign hwindow
  obtain ⟨r, hat⟩ := exists_regAt_iff.2 ⟨halign, hwindow⟩
  refine ⟨s.regValue r, hostRead_of_regAt hat s, fun hoff => ?_, ?_⟩
  · fin_cases hoff <;> cases hat <;> rfl
  · and_intros <;>
    · rintro rfl
      cases hat
      rfl

end Sys2Proof.Proofs

/-! SUPPORT. The command word: what a mask says of a word's fields, what the decoder accepts, and the number
a command's word is (30_encoding.md). -/

namespace Sys2Proof.Proofs

open Sys2Proof.Machine Sys2Proof.Laws

/-! ## Encoding, then decoding -/

/-- Settles O1: every field of a command's word is the operand it was placed from, and no reserved bit is
1. -/
theorem commandsDecodeToThemselves : Obligations.CommandsDecodeToThemselves := by
  intro i hw
  cases i with
  | readReg dev sub =>
    simp [decode, opField_readReg, reservedRR_readReg, devField_readReg, subField_readReg]
  | writeReg dev sub val =>
    simp [decode, opField_writeReg, reservedWR_writeReg, devField_writeReg, subField_writeReg,
      valField_writeReg]
  | writeBlock dev len =>
    have hlen : 1 ≤ len.toNat ∧ len.toNat ≤ 16 := of_decide_eq_true hw
    simp [decode, opField_writeBlock, reservedWB_writeBlock, devField_writeBlock, lenField_writeBlock, hlen]
  | pulseMeasure => rfl

/-! ## Fields and masks -/

/-- The ones under a field, its lowest bit at `lo`. -/
def fieldMask (lo n : Nat) : Word := placed (BitVec.allOnes n) lo

theorem getLsbD_placed {n : Nat} (v : BitVec n) (lo : Nat) {i : Nat} (hi : i < 32) :
    (placed v lo).getLsbD i = (!decide (i < lo) && v.getLsbD (i - lo)) := by
  simp [placed, hi]

/-- A field put back in its place is the word under the field's mask. -/
theorem placed_extractLsb' (w : Word) (lo n : Nat) :
    placed (w.extractLsb' lo n) lo = w &&& fieldMask lo n := by
  apply word_ext
  intro i hi
  rw [BitVec.getLsbD_and, fieldMask, getLsbD_placed _ _ hi, getLsbD_placed _ _ hi]
  by_cases hlo : i < lo
  · simp [hlo]
  · simp [hlo, Nat.add_sub_cancel' (Nat.not_lt.1 hlo), Bool.and_comm]

theorem extractLsb'_placed {n lo : Nat} (v : BitVec n) (h : lo + n ≤ 32) :
    (placed v lo).extractLsb' lo n = v := by
  apply BitVec.eq_of_getLsbD_eq
  intro i hi
  rw [BitVec.getLsbD_extractLsb', getLsbD_placed v lo (by omega)]
  simp [hi]

/-- A word has the bits of `placed v lo` under a field's mask exactly if the field is `v`. -/
theorem and_fieldMask_eq_iff {w : Word} {n lo : Nat} {v : BitVec n} (h : lo + n ≤ 32) :
    w &&& fieldMask lo n = placed v lo ↔ w.extractLsb' lo n = v := by
  rw [← placed_extractLsb']
  constructor
  · intro heq
    rw [← extractLsb'_placed (w.extractLsb' lo n) h, heq, extractLsb'_placed v h]
  · intro heq
    rw [heq]

/-- A field whose bits are all in the mask of a match is the field of the value matched. -/
theorem extractLsb'_of_and_eq {w m v : Word} (h : w &&& m = v) {lo n : Nat}
    (hm : m.extractLsb' lo n = BitVec.allOnes n) : w.extractLsb' lo n = v.extractLsb' lo n := by
  rw [← h, BitVec.extractLsb'_and, hm, BitVec.and_allOnes]

theorem and_ones (w : Word) : w &&& 0xFFFFFFFF#32 = w := BitVec.and_allOnes

theorem and_op_eq_iff {w : Word} (op : BitVec 4) : w &&& 0xF#32 = placed op 0 ↔ opField w = op :=
  and_fieldMask_eq_iff (lo := 0) (n := 4) (by decide)

/-- Two fields are 0 exactly if the word is 0 under their masks. -/
theorem and_fieldMasks_eq_zero_iff {w : Word} {lo n lo' n' : Nat} (h : lo + n ≤ 32) (h' : lo' + n' ≤ 32) :
    w &&& (fieldMask lo n ||| fieldMask lo' n') = 0#32 ↔
      w.extractLsb' lo n = 0#n ∧ w.extractLsb' lo' n' = 0#n' := by
  rw [BitVec.and_or_distrib_left, BitVec.or_eq_zero_iff, ← and_fieldMask_eq_iff h, ← and_fieldMask_eq_iff h']
  simp [placed]

theorem reservedRR_iff {w : Word} : reservedRR w = true ↔ w &&& 0xFFF00800#32 ≠ 0#32 := by
  rw [show 0xFFF00800#32 = fieldMask 20 12 ||| fieldMask 11 1 by decide, Ne,
    and_fieldMasks_eq_zero_iff (by decide) (by decide), not_and_or]
  simp [reservedRR]

theorem reservedWR_iff {w : Word} : reservedWR w = true ↔ w &&& 0xF0000800#32 ≠ 0#32 := by
  rw [show 0xF0000800#32 = fieldMask 28 4 ||| fieldMask 11 1 by decide, Ne,
    and_fieldMasks_eq_zero_iff (by decide) (by decide), not_and_or]
  simp [reservedWR]

theorem reservedWB_iff {w : Word} : reservedWB w = true ↔ w &&& 0xFFFE0800#32 ≠ 0#32 := by
  rw [show 0xFFFE0800#32 = fieldMask 17 15 ||| fieldMask 11 1 by decide, Ne,
    and_fieldMasks_eq_zero_iff (by decide) (by decide), not_and_or]
  simp [reservedWB]

theorem reservedPM_iff {w : Word} : reservedPM w = true ↔ w &&& 0xFFFFFFF0#32 ≠ 0#32 := by
  rw [reservedPM, bne_iff_ne, Ne, ← and_fieldMask_eq_iff (by decide)]
  rfl

theorem toNat_lenField (w : Word) : (w >>> 12).toNat % 32 = (lenField w).toNat := by
  rw [lenField, ← BitVec.setWidth_ushiftRight_eq_extractLsb, BitVec.toNat_setWidth]

/-! ## What the decoder accepts -/

/-- The words that decode, by their fields, and what they decode to (R112). -/
theorem decode_eq_ok_iff {w : Word} {i : Instr} :
    decode w = .ok i ↔
      opField w = 0x1#4 ∧ reservedRR w = false ∧ i = .readReg (devField w) (subField w) ∨
      opField w = 0x2#4 ∧ reservedWR w = false ∧ i = .writeReg (devField w) (subField w) (valField w) ∨
      opField w = 0x3#4 ∧ reservedWB w = false ∧ (Instr.writeBlock (devField w) (lenField w)).WellFormed ∧
        i = .writeBlock (devField w) (lenField w) ∨
      opField w = 0x8#4 ∧ reservedPM w = false ∧ i = .pulseMeasure := by
  constructor
  · intro h
    unfold decode at h
    split_ifs at h <;> cases h <;> simp_all [Instr.WellFormed, Instr.wellFormed]
  · rintro (⟨hop, hres, rfl⟩ | ⟨hop, hres, rfl⟩ | ⟨hop, hres, hw, rfl⟩ | ⟨hop, hres, rfl⟩)
    · simp [decode, hop, hres]
    · simp [decode, hop, hres]
    · simp_all [decode, Instr.WellFormed, Instr.wellFormed]
    · simp [decode, hop, hres]

/-- The words that do not decode, by their fields (R108): each error branch of the decoder is one of the cases,
and each of its other branches none of them. -/
theorem decode_eq_error_iff {w : Word} :
    (∃ r, decode w = .error r) ↔
      (opField w ≠ 0x1#4 ∧ opField w ≠ 0x2#4 ∧ opField w ≠ 0x3#4 ∧ opField w ≠ 0x8#4) ∨
      (opField w = 0x1#4 ∧ reservedRR w = true) ∨
      (opField w = 0x2#4 ∧ reservedWR w = true) ∨
      (opField w = 0x3#4 ∧ reservedWB w = true) ∨
      (opField w = 0x8#4 ∧ reservedPM w = true) ∨
      (opField w = 0x3#4 ∧ ((lenField w).toNat = 0 ∨ 16 < (lenField w).toNat)) := by
  unfold decode
  split_ifs <;> simp_all <;> omega

/-! ## Decoding, then encoding -/

/-- A word whose reserved bits are 0 keeps all its bits under the mask of the others. -/
theorem and_eq_self_of_reserved {w r m : Word} (h : w &&& r = 0#32) (hm : r ||| m = BitVec.allOnes 32) :
    w &&& m = w := by
  calc w &&& m = w &&& r ||| w &&& m := by rw [h, BitVec.zero_or]
    _ = w &&& (r ||| m) := BitVec.and_or_distrib_left.symm
    _ = w := by rw [hm, BitVec.and_allOnes]

theorem encode_fieldsRR {w : Word} (hop : opField w = 0x1#4) (hres : reservedRR w = false) :
    encode (.readReg (devField w) (subField w)) = w := by
  have hzero : w &&& 0xFFF00800#32 = 0#32 := by simpa [hres] using (reservedRR_iff (w := w)).not
  simp only [encode, ← hop, opField, devField, subField, placed_extractLsb', ← BitVec.and_or_distrib_left]
  exact and_eq_self_of_reserved hzero (by decide)

theorem encode_fieldsWR {w : Word} (hop : opField w = 0x2#4) (hres : reservedWR w = false) :
    encode (.writeReg (devField w) (subField w) (valField w)) = w := by
  have hzero : w &&& 0xF0000800#32 = 0#32 := by simpa [hres] using (reservedWR_iff (w := w)).not
  simp only [encode, ← hop, opField, devField, subField, valField, placed_extractLsb',
    ← BitVec.and_or_distrib_left]
  exact and_eq_self_of_reserved hzero (by decide)

theorem encode_fieldsWB {w : Word} (hop : opField w = 0x3#4) (hres : reservedWB w = false) :
    encode (.writeBlock (devField w) (lenField w)) = w := by
  have hzero : w &&& 0xFFFE0800#32 = 0#32 := by simpa [hres] using (reservedWB_iff (w := w)).not
  simp only [encode, ← hop, opField, devField, lenField, placed_extractLsb', ← BitVec.and_or_distrib_left]
  exact and_eq_self_of_reserved hzero (by decide)

theorem encode_fieldsPM {w : Word} (hop : opField w = 0x8#4) (hres : reservedPM w = false) :
    encode .pulseMeasure = w := by
  have hzero : w &&& 0xFFFFFFF0#32 = 0#32 := by simpa [hres] using (reservedPM_iff (w := w)).not
  simp only [encode, ← hop, opField, placed_extractLsb']
  exact and_eq_self_of_reserved hzero (by decide)

/-- Settles O2: the fields the decoder reads and the reserved bits it finds 0 are all the bits of the word. -/
theorem decodedWordsEncodeBack : Obligations.DecodedWordsEncodeBack := by
  intro w i h
  rcases decode_eq_ok_iff.1 h with ⟨hop, hres, rfl⟩ | ⟨hop, hres, rfl⟩ | ⟨hop, hres, hwf, rfl⟩ |
    ⟨hop, hres, rfl⟩
  · exact ⟨rfl, encode_fieldsRR hop hres⟩
  · exact ⟨rfl, encode_fieldsWR hop hres⟩
  · exact ⟨hwf, encode_fieldsWB hop hres⟩
  · exact ⟨rfl, encode_fieldsPM hop hres⟩

/-! ## The rows of the opcode table -/

theorem decode_of_rowRR {w : Word} (h : w &&& 0xFFF0080F#32 = 0x1#32) :
    decode w = .ok (.readReg (devField w) (subField w)) := by
  refine decode_eq_ok_iff.2 (.inl ⟨extractLsb'_of_and_eq h rfl, ?_, rfl⟩)
  simp only [reservedRR, extractLsb'_of_and_eq h (lo := 20) (n := 12) rfl,
    extractLsb'_of_and_eq h (lo := 11) (n := 1) rfl]
  rfl

theorem decode_of_rowWR {w : Word} (h : w &&& 0xF000080F#32 = 0x2#32) :
    decode w = .ok (.writeReg (devField w) (subField w) (valField w)) := by
  refine decode_eq_ok_iff.2 (.inr (.inl ⟨extractLsb'_of_and_eq h rfl, ?_, rfl⟩))
  simp only [reservedWR, extractLsb'_of_and_eq h (lo := 28) (n := 4) rfl,
    extractLsb'_of_and_eq h (lo := 11) (n := 1) rfl]
  rfl

theorem decode_of_rowWB {w : Word} (h : w &&& 0xFFFE080F#32 = 0x3#32)
    (hlen : 1 ≤ (lenField w).toNat ∧ (lenField w).toNat ≤ 16) :
    decode w = .ok (.writeBlock (devField w) (lenField w)) := by
  refine decode_eq_ok_iff.2 (.inr (.inr (.inl
    ⟨extractLsb'_of_and_eq h rfl, ?_, decide_eq_true hlen, rfl⟩)))
  simp only [reservedWB, extractLsb'_of_and_eq h (lo := 17) (n := 15) rfl,
    extractLsb'_of_and_eq h (lo := 11) (n := 1) rfl]
  rfl

theorem accepts_iff {w : Word} {r : OpcodeRow} :
    r.accepts w = true ↔ w &&& r.mask = r.value ∧
      (r.lenBounded = true → 1 ≤ (lenField w).toNat ∧ (lenField w).toNat ≤ 16) := by
  cases h : r.lenBounded <;> simp [OpcodeRow.accepts, h]

/-- A word a row of the table accepts decodes. -/
theorem decode_of_accepts {w : Word} {r : OpcodeRow} (hr : r ∈ opcodeTable) (h : r.accepts w = true) :
    ∃ i, decode w = .ok i := by
  obtain ⟨hmatch, hlen⟩ := accepts_iff.1 h
  fin_cases hr
  · exact ⟨_, decode_of_rowRR hmatch⟩
  · exact ⟨_, decode_of_rowWR hmatch⟩
  · exact ⟨_, decode_of_rowWB hmatch (hlen rfl)⟩
  · exact ⟨.pulseMeasure, (and_ones w).symm.trans hmatch ▸ rfl⟩

/-- The word of every well-formed command belongs to the command's row (R112). -/
theorem tableRow_of_wellFormed (i : Instr) : TableRow.Statement i := by
  cases i with
  | readReg dev sub => exact TableRow.readReg dev sub
  | writeReg dev sub val => exact TableRow.writeReg dev sub val
  | writeBlock dev len => exact TableRow.writeBlock dev len
  | pulseMeasure => exact TableRow.pulseMeasure

/-- A word that decodes is accepted by the row of its command. -/
theorem accepts_of_decode {w : Word} {i : Instr} (h : decode w = .ok i) :
    ∃ r, opcodeTable[(TableRow.rowOf i).val]? = some r ∧ r.accepts w = true := by
  obtain ⟨hw, henc⟩ := decodedWordsEncodeBack w i h
  obtain ⟨r, hr, hacc⟩ := (Option.any_eq_true _ _).1 (tableRow_of_wellFormed i hw)
  exact ⟨r, hr, henc ▸ hacc⟩

/-- The opcode a row of the table matches. -/
def rowOp (r : OpcodeRow) : BitVec 4 := opField r.value

theorem rowOp_of_accepts {w : Word} {r : OpcodeRow} (hr : r ∈ opcodeTable) (h : r.accepts w = true) :
    rowOp r = opField w := by
  have hmask : ∀ r ∈ opcodeTable, r.mask.extractLsb' 0 4 = BitVec.allOnes 4 := by decide
  exact (extractLsb'_of_and_eq (accepts_iff.1 h).1 (hmask r hr)).symm

/-- At most one row accepts a word, because the rows' opcodes differ (R112). -/
theorem length_accepting_le_one (w : Word) : (opcodeTable.filter fun r => r.accepts w).length ≤ 1 := by
  have hops : (opcodeTable.map rowOp).Nodup := by decide
  rw [← List.countP_eq_length_filter]
  calc opcodeTable.countP (fun r => r.accepts w)
      ≤ opcodeTable.countP ((· == opField w) ∘ rowOp) :=
        List.countP_mono_left fun r hr h => beq_iff_eq.2 (rowOp_of_accepts hr h)
    _ = (opcodeTable.map rowOp).count (opField w) := by rw [List.count, List.countP_map]
    _ ≤ 1 := List.nodup_iff_count_le_one.1 hops _

theorem exists_accepting_iff {w : Word} :
    (∃ r ∈ opcodeTable, r.accepts w = true) ↔ ∃ i, decode w = .ok i := by
  constructor
  · rintro ⟨r, hr, h⟩
    exact decode_of_accepts hr h
  · rintro ⟨i, h⟩
    obtain ⟨r, hr, hacc⟩ := accepts_of_decode h
    exact ⟨r, List.mem_of_getElem? hr, hacc⟩

/-- Settles O3: a match fixes the fields under its mask, and a word no row matches does not decode, for the
word of a command matches the command's row. -/
theorem decodeFollowsTheRule : Obligations.DecodeFollowsTheRule := by
  refine ⟨fun w => ?_, fun w => ⟨length_accepting_le_one w, ?_⟩⟩
  · simp only [toNat_lenField, BitVec.setWidth_ushiftRight_eq_extractLsb]
    refine ⟨decode_of_rowRR, decode_of_rowWR, fun h hmin hmax => decode_of_rowWB h ⟨hmin, hmax⟩,
      fun h => h ▸ rfl, fun hRR hWR hWB hPM => ?_⟩
    cases hd : decode w with
    | error r => exact ⟨r, rfl⟩
    | ok i =>
      obtain ⟨r, hr, hacc⟩ := accepts_of_decode hd
      obtain ⟨hmatch, hlen⟩ := accepts_iff.1 hacc
      cases i with
      | readReg => cases hr; exact absurd hmatch hRR
      | writeReg => cases hr; exact absurd hmatch hWR
      | writeBlock => cases hr; exact absurd ⟨hmatch, hlen rfl⟩ hWB
      | pulseMeasure => cases hr; exact absurd ((and_ones w).symm.trans hmatch) hPM
  · rw [← exists_accepting_iff, ← List.length_filter_pos_iff]
    have := length_accepting_le_one w
    omega

/-! ## Illegal words -/

/-- Settles O4: the masks are those of the fields the decoder looks at. -/
theorem illegalWordsOnlySetCmdIllegal : Obligations.IllegalWordsOnlySetCmdIllegal := by
  refine ⟨fun w => ?_, ⟨.opcode, rfl⟩, fun s w r h => cmdWrite_error h s⟩
  rw [decode_eq_error_iff, toNat_lenField]
  simp only [reservedRR_iff, reservedWR_iff, reservedWB_iff, reservedPM_iff, ← and_op_eq_iff, ne_eq]
  rfl

/-! ## The word of a command as a number -/

/-- A field above a smaller number is that number plus the field's value times its place. -/
theorem toNat_placed_or {n lo : Nat} (v : BitVec n) {x : Word} (h : lo + n ≤ 32) (hx : x.toNat < 2 ^ lo) :
    (placed v lo ||| x).toNat = 2 ^ lo * v.toNat + x.toNat := by
  have hfit : v.toNat * 2 ^ lo < 2 ^ 32 := by
    calc v.toNat * 2 ^ lo < 2 ^ n * 2 ^ lo := Nat.mul_lt_mul_of_pos_right v.isLt (Nat.two_pow_pos lo)
      _ = 2 ^ (lo + n) := by rw [← Nat.pow_add, Nat.add_comm]
      _ ≤ 2 ^ 32 := Nat.pow_le_pow_right (by decide) h
  have hv : (placed v lo).toNat = v.toNat <<< lo := by
    have hn : v.toNat < 2 ^ 32 := v.isLt.trans_le (Nat.pow_le_pow_right (by decide) (by omega))
    rw [placed, BitVec.toNat_shiftLeft, BitVec.toNat_setWidth, Nat.mod_eq_of_lt hn, Nat.mod_eq_of_lt]
    rwa [Nat.shiftLeft_eq]
  rw [BitVec.toNat_or, hv, ← Nat.shiftLeft_add_eq_or_of_lt hx, Nat.shiftLeft_eq, Nat.mul_comm]

theorem toNat_placed_dev_or_op (dev : DevAddr) (op : BitVec 4) :
    (placed dev 4 ||| placed op 0).toNat = 2 ^ 4 * dev.toNat + op.toNat := by
  have hop : (placed op 0).toNat = op.toNat := by simp [placed]; omega
  rw [toNat_placed_or dev (by decide) (by omega), hop]

/-- The number of a word of format RR or WB: a field of `n` bits above DEV and OP (R102, R104). -/
theorem toNat_placed_or_dev_or_op {n : Nat} (v : BitVec n) (hn : n ≤ 20) (dev : DevAddr) (op : BitVec 4) :
    (placed v 12 ||| placed dev 4 ||| placed op 0).toNat =
      2 ^ 12 * v.toNat + (2 ^ 4 * dev.toNat + op.toNat) := by
  have hlow := toNat_placed_dev_or_op dev op
  rw [BitVec.or_assoc, toNat_placed_or v (by omega) (by omega), hlow]

/-- The number of a word of format WR (R103). -/
theorem toNat_encode_writeReg (dev : DevAddr) (sub val : Byte) :
    (encode (.writeReg dev sub val)).toNat =
      2 ^ 20 * val.toNat + (2 ^ 12 * sub.toNat + (2 ^ 4 * dev.toNat + 2)) := by
  have hlow : (placed sub 12 ||| placed dev 4 ||| placed 0x2#4 0).toNat =
      2 ^ 12 * sub.toNat + (2 ^ 4 * dev.toNat + 2) := toNat_placed_or_dev_or_op sub (by decide) dev 0x2#4
  rw [encode, BitVec.or_assoc, BitVec.or_assoc, ← BitVec.or_assoc (placed sub 12),
    toNat_placed_or val (by decide) (by omega), hlow]

/-- Settles O5: an operand in range is its field's value, and a word is the number its fields make. -/
theorem assembledWordsFollowTheFormats : Obligations.AssembledWordsFollowTheFormats := by
  refine ⟨fun dev sub => ?_, fun dev sub val => ?_, fun dev len => ?_, rfl⟩
  · rw [Asm.assemble, Asm.toInstr]
    split_ifs with h
    · refine congrArg some (BitVec.eq_of_toNat_eq ?_)
      rw [encode, toNat_placed_or_dev_or_op _ (by decide)]
      simp only [BitVec.toNat_ofNat]
      omega
    · rfl
  · rw [Asm.assemble, Asm.toInstr]
    split_ifs with h
    · refine congrArg some (BitVec.eq_of_toNat_eq ?_)
      rw [toNat_encode_writeReg]
      simp only [BitVec.toNat_ofNat]
      omega
    · rfl
  · rw [Asm.assemble, Asm.toInstr]
    split_ifs with h
    · refine congrArg some (BitVec.eq_of_toNat_eq ?_)
      rw [encode, toNat_placed_or_dev_or_op _ (by decide)]
      simp only [BitVec.toNat_ofNat]
      omega
    · rfl

/-- Settles O6: the decoder evaluates to each of the five answers. -/
theorem specWordsDecodeAsWritten : Obligations.SpecWordsDecodeAsWritten :=
  ⟨rfl, rfl, rfl, rfl, rfl⟩

end Sys2Proof.Proofs

/-! SUPPORT. What a host's command does at the block, the turn that waits on a register, and why the two units
do not interfere (30_encoding.md R113 to R116). -/

namespace Sys2Proof.Proofs

open Sys2Proof.Machine Sys2Proof.Laws Sys2Proof.Safety

/-! ## Acceptance -/

/-- Settles O10: the acceptance of `accepted`, where STATUS changes as `word_btAccept` says. -/
theorem readRegIsAcceptedWhenIdle : Obligations.ReadRegIsAcceptedWhenIdle := by
  intro s dev sub hidle
  exact ⟨_, exec_of_idle rfl hidle, rfl, rfl, word_btAccept s.status, rfl, rfl, rfl,
    sameOperands_accepted _ s, ⟨rfl, rfl, rfl, rfl, rfl, rfl⟩, rfl, rfl, rfl, rfl⟩

/-- Settles O11: the acceptance of `accepted`, where STATUS changes as `word_btAccept` says. -/
theorem writeRegIsAcceptedWhenIdle : Obligations.WriteRegIsAcceptedWhenIdle := by
  intro s dev sub val hidle
  exact ⟨_, exec_of_idle rfl hidle, rfl, rfl, word_btAccept s.status, rfl, rfl, rfl,
    sameOperands_accepted _ s, ⟨rfl, rfl, rfl, rfl, rfl, rfl⟩, rfl, rfl, rfl, rfl⟩

/-- Settles O14: the acceptance of `accepted`, where STATUS changes as `word_pwtAccept` says. -/
theorem pulseMeasureIsAcceptedWhenIdle : Obligations.PulseMeasureIsAcceptedWhenIdle := by
  intro s hidle
  exact ⟨_, exec_of_idle rfl hidle, rfl, rfl, rfl, rfl, rfl, rfl, word_pwtAccept s.status,
    sameOperands_accepted _ s, ⟨rfl, rfl, rfl, rfl, rfl⟩, rfl, rfl, rfl, rfl⟩

/-- Settles O13: such a command is not well formed, and `exec` looks at that before the busy bit. -/
theorem blockLengthOutOfRangeIsIllegal : Obligations.BlockLengthOutOfRangeIsIllegal := by
  intro s dev len hlen
  have hw : ¬ (Instr.writeBlock dev len).WellFormed := by
    rw [Instr.WellFormed, Instr.wellFormed, decide_eq_true_iff]
    omega
  rw [exec_eq, if_neg hw]
  rfl

/-! ## Waiting -/

/-- One turn of a WAIT on a register (R116). -/
theorem waitStep_of_regAt {off : Nat} {r : Reg} (h : regAt off = some r) (mask value : Word) (s : State) :
    waitStep off mask value s = .next { s with host := { s.host with
      reads := s.host.reads ++ [s.regValue r]
      program :=
        if s.regValue r &&& mask = value then s.host.program
        else .wait off mask value :: s.host.program } } := by
  simp only [waitStep, h]
  split <;> rfl

/-- Settles O38: the turn takes the WAIT from the program, and puts it back where the read does not match. -/
theorem waitRepeatsUntilItMatches : Obligations.WaitRepeatsUntilItMatches := by
  intro s es ops mask value he hc hp
  have hat : regAt 0x04 = some .status := rfl
  calc step s = hostTurn { s with events := es } := step_of_events_cons he
    _ = runOp (.wait 0x04 mask value) { s with events := es, host := { s.host with program := ops } } :=
      hostTurn_of_program hc hp
    _ = _ := waitStep_of_regAt hat mask value _

/-! ## The two units -/

/-- `f` with the PWT fields of `g`. -/
def withPwtStatus (f g : Status) : Status :=
  { f with pwtBusy := g.pwtBusy, pwtDone := g.pwtDone, pwtErr := g.pwtErr, pwtErrPhase := g.pwtErrPhase }

/-- `s` with the pulse-width timer of `u`: its state, its STATUS fields, its results and output, the counter,
and the operands it reads. All the rest is the bus transactor's side of `s`. -/
def withTimer (s u : State) : State :=
  { s with
    status := withPwtStatus s.status u.status
    pwtTimeout := u.pwtTimeout
    pwtStart := u.pwtStart
    pwtEnd := u.pwtEnd
    pwtDuration := u.pwtDuration
    pwt := u.pwt
    trigOut := u.trigOut
    ticks := u.ticks
    par := u.par }

/-- The operation works on the transactor's side alone: it neither reads nor changes the timer's. -/
def KeepsToTransactor (f : State → State) : Prop :=
  ∀ s u, f (withTimer s u) = withTimer (f s) u

/-- The operation works on the timer's side alone: it neither reads nor changes the transactor's. -/
def KeepsToTimer (g : State → State) : Prop :=
  ∀ s u, g (withTimer s u) = withTimer s (g u)

@[simp] theorem withTimer_bt (s u : State) : (withTimer s u).bt = s.bt := rfl
@[simp] theorem withTimer_pwt (s u : State) : (withTimer s u).pwt = u.pwt := rfl

theorem withTimer_self (s : State) : withTimer s s = s := rfl

theorem KeepsToTransactor.withTimer_eq {f : State → State} (hf : KeepsToTransactor f) (s : State) :
    withTimer (f s) s = f s := by
  rw [← hf, withTimer_self]

theorem KeepsToTimer.withTimer_eq {g : State → State} (hg : KeepsToTimer g) (s : State) :
    withTimer s (g s) = g s := by
  rw [← hg, withTimer_self]

/-- Operations that keep to different sides commute (R114). -/
theorem KeepsToTransactor.commute {f g : State → State} (hf : KeepsToTransactor f) (hg : KeepsToTimer g)
    (s : State) : g (f s) = f (g s) := by
  calc g (f s) = g (withTimer (f s) s) := by rw [hf.withTimer_eq]
    _ = withTimer (f s) (g s) := hg _ _
    _ = f (withTimer s (g s)) := (hf _ _).symm
    _ = f (g s) := by rw [hg.withTimer_eq]

/-- An answer looks at the BT's state alone. -/
theorem keepsToTransactor_btAnswer (d : Draw) : KeepsToTransactor (·.btAnswer d) := by
  intro s u
  cases h : s.bt.state <;> cases d <;> simp only [State.btAnswer, withTimer_bt, h] <;> rfl

theorem keepsToTimer_trigLowTick : KeepsToTimer trigLowTick := by
  intro s u
  simp only [trigLowTick, apply_ite (withTimer s)]
  rfl

theorem keepsToTimer_trigHighTick : KeepsToTimer trigHighTick := by
  intro s u
  simp only [trigHighTick, apply_ite (withTimer s)]
  rfl

theorem keepsToTimer_waitRiseTick (t : Word) (e : Level) : KeepsToTimer (waitRiseTick t e) := by
  intro s u
  simp only [waitRiseTick, apply_ite (withTimer s)]
  rfl

theorem keepsToTimer_waitFallTick (t : Word) (e : Level) : KeepsToTimer (waitFallTick t e) := by
  intro s u
  simp only [waitFallTick, apply_ite (withTimer s)]
  rfl

/-- The timer's step looks at the PWT's state, its remaining ticks, its results and the parameters alone. -/
theorem keepsToTimer_pwtTick (t : Word) (e : Level) : KeepsToTimer (·.pwtTick t e) := by
  intro s u
  cases h : u.pwt.state with simp only [State.pwtTick, withTimer_pwt, h]
  | trigLow => exact keepsToTimer_trigLowTick s u
  | trigHigh => exact keepsToTimer_trigHighTick s u
  | waitRise => exact keepsToTimer_waitRiseTick t e s u
  | waitFall => exact keepsToTimer_waitFallTick t e s u

theorem keepsToTimer_tick (e : Level) : KeepsToTimer (·.tick e) := by
  intro s u
  have h : (withTimer s u).pwtTick u.ticks e = withTimer s (u.pwtTick u.ticks e) :=
    keepsToTimer_pwtTick u.ticks e s u
  exact congrArg (fun v : State => { v with ticks := u.ticks + 1#32 }) h

theorem keepsToTransactor_accepted {i : Instr} (hu : i.unit = .bt) : KeepsToTransactor (accepted i) := by
  intro s u
  cases i with
  | pulseMeasure => cases hu
  | _ => rfl

theorem keepsToTimer_accepted_pulseMeasure : KeepsToTimer (accepted .pulseMeasure) := fun _ _ => rfl

theorem keepsToTransactor_rejectBusy : KeepsToTransactor State.rejectBusy := fun _ _ => rfl

theorem keepsToTransactor_refuseIllegal : KeepsToTransactor State.refuseIllegal := fun _ _ => rfl

/-- What `exec` leaves: the command illegal, rejected or accepted (R113). -/
def executed (i : Instr) (s : State) : State :=
  if i.wellFormed then (if s.busy i.unit then s.rejectBusy else accepted i s) else s.refuseIllegal

theorem exec_eq_executed (i : Instr) (s : State) : exec i s = .next (executed i s) := exec_eq i s

/-- A BT command keeps to the transactor's side, for the busy bit it looks at is on that side. -/
theorem keepsToTransactor_executed {i : Instr} (hu : i.unit = .bt) : KeepsToTransactor (executed i) := by
  intro s u
  have hbusy : (withTimer s u).busy i.unit = s.busy i.unit := by rw [hu]; rfl
  simp only [executed, hbusy]
  split_ifs
  · exact keepsToTransactor_rejectBusy s u
  · exact keepsToTransactor_accepted hu s u
  · exact keepsToTransactor_refuseIllegal s u

/-- CMD_REJECT is on neither unit's side: an answer and a rejection commute. -/
theorem btAnswer_rejectBusy (s : State) (d : Draw) :
    s.rejectBusy.btAnswer d = (s.btAnswer d).rejectBusy := by
  cases h : s.bt.state <;> cases d <;> simp only [State.btAnswer, State.rejectBusy, h] <;> rfl

theorem busy_pwt_btAnswer (s : State) (d : Draw) : (s.btAnswer d).busy .pwt = s.busy .pwt := by
  have h := congrArg (State.busy · .pwt) ((keepsToTransactor_btAnswer d).withTimer_eq s)
  exact h.symm

/-- PULSE_MEASURE keeps to the timer's side where it is accepted, and where it is rejected the answer leaves
CMD_REJECT alone. -/
theorem executed_pulseMeasure_btAnswer (s : State) (d : Draw) :
    executed .pulseMeasure (s.btAnswer d) = (executed .pulseMeasure s).btAnswer d := by
  cases hb : s.busy .pwt with
  | true =>
    simpa [executed, Instr.wellFormed, Instr.unit, busy_pwt_btAnswer, hb] using (btAnswer_rejectBusy s d).symm
  | false =>
    simpa [executed, Instr.wellFormed, Instr.unit, busy_pwt_btAnswer, hb] using
      (keepsToTransactor_btAnswer d).commute keepsToTimer_accepted_pulseMeasure s

/-- Settles O49: a tick keeps to the timer's side, and an answer and every BT command to the transactor's. -/
theorem unitsDoNotInterfere : Obligations.UnitsDoNotInterfere := by
  refine ⟨fun s d e => (keepsToTransactor_btAnswer d).commute (keepsToTimer_tick e) s,
    fun s t i e hu h => ?_, fun s t d h => ?_⟩
  · rw [exec_eq_executed] at h ⊢
    cases h
    exact congrArg _ ((keepsToTransactor_executed hu).commute (keepsToTimer_tick e) s).symm
  · rw [exec_eq_executed] at h ⊢
    cases h
    exact congrArg _ (executed_pulseMeasure_btAnswer s d)

end Sys2Proof.Proofs

/-! SUPPORT. The bus transactor's phases: what each answer ends or issues, which steps touch the BT, and the
whole of a READ_REG (41_bus_transactor.md R130 to R143). -/

namespace Sys2Proof.Proofs

open Sys2Proof.Machine Sys2Proof.Laws Sys2Proof.Safety

/-! ## Answers -/

/-- An answer that finds the BT in IDLE changes nothing (R130, R261). -/
theorem btAnswer_idle {s : State} (h : s.bt.state = .idle) (d : Draw) : s.btAnswer d = s := by
  simp only [State.btAnswer, h]

/-- Every answer to an operation but the Ok of an address phase ends it with nothing outstanding (R130,
R137). -/
theorem btAnswer_ends {s : State} {d : Draw} (hbusy : s.bt.state ≠ .idle)
    (hlast : ¬ (s.bt.state = .addr ∧ ∃ b, d = .ok b)) :
    (s.btAnswer d).outstanding = none ∧ (s.btAnswer d).bt.state = .idle := by
  rcases btAnswer_cases s d with ⟨hidle, -⟩ | ⟨b, haddr, hd, -⟩ | ⟨-, held, rdata, status, h, -⟩
  · exact absurd hidle hbusy
  · exact absurd ⟨haddr, b, hd⟩ hlast
  · rw [h]
    exact ⟨rfl, rfl⟩

/-- An answer leaves RDATA alone unless it is the Ok of a data phase, which writes its byte (R143). -/
theorem btAnswer_rdata_cases (s : State) (d : Draw) :
    (s.btAnswer d).rdata = s.rdata ∨
    s.bt.state = .data ∧ ∃ b, d = .ok b ∧ (s.btAnswer d).rdata = b.setWidth 32 := by
  cases h : s.bt.state with
  | idle => exact .inl (by rw [btAnswer_idle h])
  | addr =>
    cases d with
    | ok b => exact .inl (by rw [btAnswer_addr_ok h])
    | error k => exact .inl (by rw [btAnswer_addr_error h])
  | data =>
    cases d with
    | ok b => exact .inr ⟨rfl, b, rfl, by rw [btAnswer_data_ok h]⟩
    | error k => exact .inl (by rw [btAnswer_data_error h])
  | write =>
    cases d with
    | ok b => exact .inl (by rw [btAnswer_write_ok h])
    | error k => exact .inl (by rw [btAnswer_write_error h])

/-- Settles O41: a late answer is discarded, and an answer in IDLE changes nothing. -/
theorem lateAnswersAreDiscarded : Obligations.LateAnswersAreDiscarded := by
  intro s es d
  refine ⟨fun h => step_of_events_cons h, fun h hidle => ?_⟩
  rw [step_of_events_cons h]
  exact congrArg _ (btAnswer_idle (s := { s with events := es }) hidle d)

/-! ## Acceptances -/

/-- In a consistent state BT_BUSY is 0 exactly in IDLE (R40). -/
theorem busy_bt_eq_false_iff {s : State} (hs : Consistent s) : s.busy .bt = false ↔ s.bt.state = .idle := by
  obtain ⟨hbt, -⟩ := hs
  rw [← Bool.not_eq_true, State.busy, hbt, not_not]

theorem eq_accepted_of_exec {i : Instr} {s t : State} (hw : i.WellFormed) (hb : s.busy i.unit = false)
    (h : exec i s = .next t) : t = accepted i s :=
  Host.Outcome.next.inj (h.symm.trans (exec_of_idle hw hb))

/-- An accepted BT command leaves the BT in ADDR or WRITE (R131). -/
theorem accepted_state_ne_idle {i : Instr} (hu : i.unit = .bt) (s : State) :
    (accepted i s).bt.state ≠ .idle := by
  cases i with
  | pulseMeasure => cases hu
  | _ => exact nofun

/-! ## Steps -/

/-- A step that writes a register for the host is a turn of the host (R9). -/
theorem takeEvent_of_stepWrite {s : State} {x : Nat × Word} (h : stepWrite s = some x) :
    s.takeEvent.1 = .host := by
  unfold stepWrite at h
  split at h
  · assumption
  all_goals cases h

/-- What a step can do to the BT and its end of the bus, with the event or the host's write that does it:
nothing, or an answer, a reset or the acceptance of a BT command by an idle BT, on a state `s'` of the same
block. -/
theorem step_transactor {s t : State} (h : step s = .next t) :
    SameBus s t ∨ ∃ s', SameBlock s s' ∧
      ((∃ d, s.takeEvent.1 = .answer d ∧ t = s'.btAnswer d) ∨
       (s.takeEvent.1 = .reset ∧ t = s'.blockReset) ∨
       ∃ w i, stepWrite s = some (0x00, w) ∧ decode w = .ok i ∧ i.unit = .bt ∧
         s.busy .bt = false ∧ t = accepted i s') := by
  obtain ⟨s', hs, hstep⟩ := step_block h
  have hbus := sameBus_of_sameBlock hs
  rcases hstep with hanswer | rfl | ⟨e, -, rfl⟩ | hreset | hr | ⟨w, i, hwrite, hd, -, hb, rfl⟩
  · exact .inr ⟨s', hs, .inl hanswer⟩
  · exact .inl hbus
  · exact .inl (sameBus_trans hbus (sameBus_tick s' e))
  · exact .inr ⟨s', hs, .inr (.inl hreset)⟩
  · exact .inl (sameBus_trans hbus (sameBus_of_registersOnly hr))
  · cases hu : i.unit with
    | bt =>
      have hb' : s.busy .bt = false := by
        rwa [hu, State.busy, status_of_sameBlock hs] at hb
      exact .inr ⟨s', hs, .inr (.inr ⟨w, i, hwrite, hd, hu, hb', rfl⟩)⟩
    | pwt =>
      cases i with
      | pulseMeasure => exact .inl hbus
      | _ => cases hu

/-- Settles O22: of the steps that touch the BT only an answer and a reset change RDATA. -/
theorem rdataChangesOnlyByDataPhase : Obligations.RdataChangesOnlyByDataPhase := by
  intro s t h hne
  rcases step_transactor h with ⟨-, hrdata, -⟩ |
    ⟨s', hs, ⟨d, he, rfl⟩ | ⟨he, rfl⟩ | ⟨w, i, -, -, -, -, rfl⟩⟩
  · exact absurd hrdata hne
  · obtain ⟨hbt, hrdata, -⟩ := sameBus_of_sameBlock hs
    rcases btAnswer_rdata_cases s' d with hsame | ⟨hdata, b, rfl, hb⟩
    · exact absurd (hsame.trans hrdata) hne
    · exact .inl ⟨hbt ▸ hdata, b, he, hb⟩
  · exact .inr ⟨he, rfl⟩
  · obtain ⟨-, hrdata, -⟩ := sameBus_of_sameBlock hs
    exact absurd ((accepted_rdata i s').trans hrdata) hne

/-! ## The table of transitions -/

theorem errCode_eq_ite (k : BusErrorKind) : errCode k = if k = .noAck then 0b01#2 else 0b10#2 := by
  cases k <;> rfl

/-- A step that changes the BT's state from IDLE accepts the BT command the host writes to CMD (R130). -/
theorem step_leaves_idle {s t : State} (h : step s = .next t) (hidle : s.bt.state = .idle)
    (hne : t.bt.state ≠ s.bt.state) : s.takeEvent.1 = .host ∧ WritesCommandOf .bt s := by
  rcases step_transactor h with ⟨hbt, -⟩ |
    ⟨s', hs, ⟨d, -, rfl⟩ | ⟨-, rfl⟩ | ⟨w, i, hwrite, hd, hu, -, -⟩⟩
  · exact absurd (by rw [hbt]) hne
  · obtain ⟨hbt, -⟩ := sameBus_of_sameBlock hs
    exact absurd (by rw [btAnswer_idle (hbt ▸ hidle), hbt]) hne
  · exact absurd hidle.symm hne
  · exact ⟨takeEvent_of_stepWrite hwrite, w, i, hwrite, hd, hu⟩

/-- In a consistent state a step that changes the BT's state from another one than IDLE is an answer or a
reset (R130). -/
theorem step_leaves_busy {s t : State} (hs : Consistent s) (h : step s = .next t)
    (hbusy : s.bt.state ≠ .idle) (hne : t.bt.state ≠ s.bt.state) :
    (∃ d, s.takeEvent.1 = .answer d) ∨ s.takeEvent.1 = .reset := by
  rcases step_transactor h with ⟨hbt, -⟩ |
    ⟨s', -, ⟨d, he, -⟩ | ⟨he, -⟩ | ⟨w, i, -, -, -, hb, -⟩⟩
  · exact absurd (by rw [hbt]) hne
  · exact .inl ⟨d, he⟩
  · exact .inr he
  · exact absurd ((busy_bt_eq_false_iff hs).1 hb) hbusy

/-- Settles O20: the acceptances and the answers one by one, and the steps by what they do to the BT. -/
theorem transactorTransitionsAreTheTable : Obligations.TransactorTransitionsAreTheTable := by
  refine ⟨fun s t i hw hs hidle h => ?_, fun s d => ?_, fun s d => ?_, fun _ => rfl,
    fun s t hs h hne => ⟨fun hidle => step_leaves_idle h hidle hne,
      fun hbusy => step_leaves_busy hs h hbusy hne⟩⟩
  · have hb := (busy_bt_eq_false_iff hs).2 hidle
    cases i with
    | pulseMeasure => rcases exec_next h with rfl | rfl | ⟨-, -, rfl⟩ <;> exact hidle
    | _ => rw [eq_accepted_of_exec hw hb h]; rfl
  · cases h : s.bt.state with
    | idle => rw [btAnswer_idle h, h]
    | addr =>
      cases d with
      | ok b => rw [btAnswer_addr_ok h]
      | error k => exact (btAnswer_ends (by simp [h]) (by simp)).2
    | data => exact (btAnswer_ends (by simp [h]) (by simp [h])).2
    | write => exact (btAnswer_ends (by simp [h]) (by simp [h])).2
  · cases h : s.bt.state with
    | idle => rw [btAnswer_idle h]
    | addr =>
      cases d with
      | ok b => rw [btAnswer_addr_ok h]
      | error k => simp [btAnswer_addr_error h, Status.btFinishErr, errCode_eq_ite, errStep]
    | data =>
      cases d with
      | ok b => rw [btAnswer_data_ok h]; rfl
      | error k => simp [btAnswer_data_error h, Status.btFinishErr, errCode_eq_ite, errStep]
    | write =>
      cases d with
      | ok b => rw [btAnswer_write_ok h]; rfl
      | error k => simp [btAnswer_write_error h, Status.btFinishErr, errCode_eq_ite, errStep]

/-- Settles O21: an answer issues the data phase or ends the operation, and an acceptance finds the BT in
IDLE. -/
theorem noPrimitiveIsRetried : Obligations.NoPrimitiveIsRetried := by
  refine ⟨fun s d _ hbusy => ⟨?_, btAnswer_ends hbusy⟩, fun s t hs h hne => ?_⟩
  · rintro ⟨haddr, b, rfl⟩
    rw [btAnswer_addr_ok haddr]
    exact ⟨rfl, rfl⟩
  · rcases step_transactor h with ⟨-, -, hout, -⟩ |
      ⟨s', hblock, ⟨d, he, rfl⟩ | ⟨-, rfl⟩ | ⟨w, i, hwrite, -, hu, hb, rfl⟩⟩
    · exact absurd hout hne
    · obtain ⟨hbt, -, hout, -⟩ := sameBus_of_sameBlock hblock
      by_cases hidle : s'.bt.state = .idle
      · exact absurd (by rw [btAnswer_idle hidle, hout]) hne
      by_cases hissue : s'.bt.state = .addr ∧ ∃ b, d = .ok b
      · obtain ⟨haddr, b, rfl⟩ := hissue
        exact .inr (.inr ⟨hbt ▸ haddr, ⟨b, he⟩, by rw [btAnswer_addr_ok haddr, ← hbt]; rfl⟩)
      · exact .inl (btAnswer_ends hidle hissue).1
    · exact .inl rfl
    · exact .inr (.inl ⟨(busy_bt_eq_false_iff hs).1 hb, accepted_state_ne_idle hu s', w, hwrite⟩)

/-! ## READ_REG -/

/-- STATUS over a whole READ_REG whose data phase fails (R131, R132). -/
theorem word_btAccept_btFinishErr_second (f : Status) (k : BusErrorKind) :
    (f.btAccept.btFinishErr k .second).word =
      f.word &&& ~~~0x0000007F#32 ||| (if k = .noAck then 0x0000004E#32 else 0x00000056#32) := by
  cases k with
  | noAck => exact word_btFinishErr_noAck_second f
  | timeout => exact word_btFinishErr_timeout_second f

/-- `s` with a READ_REG of `sub` at `dev` in its data phase: the address phase is on the trace, the bus is
held and the read is outstanding (R134). -/
def readInData (s : State) (dev : DevAddr) (sub : Byte) : State :=
  { s with
    bt := { s.bt with state := .data, dev := dev, sub := sub, held := true }
    outstanding := some (.read dev 1 false)
    trace := s.trace ++ [⟨.write dev [sub] true, .ok⟩]
    status := s.status.btAccept }

/-- `s` with a READ_REG of `sub` at `dev` ended: its transfers `xs` are on the trace, the bus is released and
nothing is outstanding, RDATA is `rdata`, and the BT is back in IDLE with `status` reported (R132). -/
def readEnded (s : State) (dev : DevAddr) (sub : Byte) (xs : List Transfer) (rdata : Word)
    (status : Status) : State :=
  { s with
    bt := { s.bt with state := .idle, dev := dev, sub := sub, held := false }
    outstanding := none
    trace := s.trace ++ xs
    rdata := rdata
    status := status }

section
variable (s : State) (dev : DevAddr) (sub : Byte)

theorem btAnswer_accepted_readReg_ok (b : Byte) :
    (accepted (.readReg dev sub) s).btAnswer (.ok b) = readInData s dev sub :=
  btAnswer_addr_ok rfl b

theorem btAnswer_accepted_readReg_error (k : BusErrorKind) :
    (accepted (.readReg dev sub) s).btAnswer (.error k) =
      readEnded s dev sub [⟨.write dev [sub] true, .error k⟩] s.rdata
        (s.status.btAccept.btFinishErr k .first) :=
  btAnswer_addr_error rfl k

theorem btAnswer_readInData_ok (c : Byte) :
    (readInData s dev sub).btAnswer (.ok c) =
      readEnded s dev sub [⟨.write dev [sub] true, .ok⟩, ⟨.read dev 1 false, .okData c⟩] (c.setWidth 32)
        s.status.btAccept.btFinishOk := by
  rw [btAnswer_data_ok (by rfl)]
  simp [readInData, readEnded, Primitive.answer]

theorem btAnswer_readInData_error (k : BusErrorKind) :
    (readInData s dev sub).btAnswer (.error k) =
      readEnded s dev sub [⟨.write dev [sub] true, .ok⟩, ⟨.read dev 1 false, .error k⟩] s.rdata
        (s.status.btAccept.btFinishErr k .second) := by
  rw [btAnswer_data_error (by rfl)]
  simp [readInData, readEnded, Primitive.answer]

end

/-- The host's data registers, the timer and the environment are the same. -/
abbrev SameOutsideTransactor (s t : State) : Prop := SameOperands s t ∧ SameTimer s t ∧ SameEnvironment s t

theorem sameOutsideTransactor_btAnswer {s t : State} (h : SameOutsideTransactor s t) (d : Draw) :
    SameOutsideTransactor s (t.btAnswer d) := by
  rw [btAnswer_frame]
  exact h

theorem sameOutsideTransactor_accepted {i : Instr} (hu : i.unit = .bt) (s : State) :
    SameOutsideTransactor s (accepted i s) := by
  cases i with
  | pulseMeasure => cases hu
  | _ => exact ⟨⟨rfl, rfl, rfl, rfl, rfl⟩, ⟨rfl, rfl, rfl, rfl, rfl, rfl⟩, rfl, rfl, rfl, rfl⟩

/-- Settles O16: the address phase's answer ends the operation or begins the data phase, whose answer ends
it. -/
theorem readRegRunsItsTwoPhases : Obligations.ReadRegRunsItsTwoPhases := by
  intro s dev sub d₁ d₂ hidle
  refine ⟨_, exec_of_idle rfl hidle, ?_, ?_, sameOutsideTransactor_btAnswer
    (sameOutsideTransactor_btAnswer (sameOutsideTransactor_accepted rfl s) d₁) d₂⟩
  · rintro k rfl
    rw [btAnswer_accepted_readReg_error]
    exact ⟨rfl, rfl, rfl, rfl, rfl, word_btAccept_btFinishErr_first s.status k⟩
  · rintro b rfl
    rw [btAnswer_accepted_readReg_ok]
    refine ⟨rfl, rfl, rfl, word_btAccept s.status, ?_⟩
    cases d₂ with
    | ok c =>
      rw [btAnswer_readInData_ok]
      refine ⟨rfl, rfl, rfl, nofun, fun c' hc => ?_⟩
      cases hc
      exact ⟨rfl, rfl, word_btAccept_btFinishOk s.status⟩
    | error k =>
      rw [btAnswer_readInData_error]
      refine ⟨rfl, rfl, rfl, fun k' hk => ?_, nofun⟩
      cases hk
      exact ⟨rfl, rfl, word_btAccept_btFinishErr_second s.status k⟩

end Sys2Proof.Proofs

/-! SUPPORT. Runs of ticks of the pulse-width timer: while a phase lasts each tick counts down, so a run of
ticks is a closed form; the trigger pulse and the two echo waits follow (42_pulse_timer.md R172 to R176). -/

namespace Sys2Proof.Proofs

open Sys2Proof.Machine Sys2Proof.Laws Sys2Proof.Safety

/-! ## Runs of ticks -/

theorem runTicks_append (s : State) (es es' : List Level) :
    runTicks s (es ++ es') = runTicks (runTicks s es) es' :=
  List.foldl_append

theorem runTicks_concat (s : State) (es : List Level) (e : Level) :
    runTicks s (es ++ [e]) = (runTicks s es).tick e :=
  runTicks_append s es [e]

/-- `s` after `n` ticks that only counted: `n` fewer ticks remain, and the counter is `n` further. -/
def countedDown (s : State) (n : Nat) : State :=
  { s with
    pwt := { s.pwt with r := s.pwt.r - BitVec.ofNat 32 n }
    ticks := s.ticks + BitVec.ofNat 32 n }

@[simp] theorem countedDown_zero (s : State) : countedDown s 0 = s := by
  simp [countedDown]

theorem countedDown_ticks_succ (s : State) (n : Nat) :
    (countedDown s n).ticks + 1#32 = s.ticks + BitVec.ofNat 32 (n + 1) := by
  simp [countedDown, BitVec.ofNat_add, BitVec.add_assoc]

theorem countedDown_r_succ (s : State) (n : Nat) :
    (countedDown s n).pwt.r - 1#32 = s.pwt.r - BitVec.ofNat 32 (n + 1) := by
  simp [countedDown, BitVec.ofNat_add, BitVec.sub_sub]

/-- The ticks remaining after `n` counting ticks run out exactly when `n` is what there was. -/
theorem sub_ofNat_eq_zero_iff {r : Word} {n : Nat} (h : n ≤ r.toNat) :
    r - BitVec.ofNat 32 n = 0#32 ↔ n = r.toNat := by
  bv_omega

/-- Where a tick only counts, it takes one `countedDown` to the next. -/
theorem tick_countedDown {s : State} {n : Nat} {e : Level}
    (h : (countedDown s n).tick e = { countedDown s n with
      pwt := { (countedDown s n).pwt with r := (countedDown s n).pwt.r - 1#32 }
      ticks := (countedDown s n).ticks + 1#32 }) :
    (countedDown s n).tick e = countedDown s (n + 1) := by
  rw [h, countedDown_ticks_succ, countedDown_r_succ]
  rfl

/-- A run of ticks each of which counts, by induction on the run. -/
theorem runTicks_eq_countedDown {s : State} {es : List Level}
    (h : ∀ n < es.length, ∀ e ∈ es, (countedDown s n).tick e = countedDown s (n + 1)) :
    runTicks s es = countedDown s es.length := by
  induction es using List.reverseRecOn with
  | nil => exact (countedDown_zero s).symm
  | append_singleton es e ih =>
    have hes : runTicks s es = countedDown s es.length :=
      ih fun n hn e he => h n (by simp; omega) e (by simp [he])
    rw [runTicks_concat, hes, h es.length (by simp) e (by simp), List.length_append, List.length_singleton]

/-! ## The trigger pulse -/

section
variable {s : State} {es : List Level}

/-- Before the last tick of TRIG_LOW or TRIG_HIGH, whatever the echo (R172). -/
theorem runTicks_trigger (h : s.pwt.state = .trigLow ∨ s.pwt.state = .trigHigh)
    (hlen : es.length < s.pwt.r.toNat) : runTicks s es = countedDown s es.length := by
  refine runTicks_eq_countedDown fun n hn e _ => tick_countedDown ?_
  have hr : (countedDown s n).pwt.r - 1#32 ≠ 0#32 := by
    rw [countedDown_r_succ, Ne, sub_ofNat_eq_zero_iff (by omega)]
    omega
  rcases h with h | h
  · exact tick_trigLow_counts (s := countedDown s n) h hr e
  · exact tick_trigHigh_counts (s := countedDown s n) h hr e

/-- The run over the whole of TRIG_LOW or TRIG_HIGH is counting ticks and one more (R172). -/
theorem runTicks_whole_trigger (h : s.pwt.state = .trigLow ∨ s.pwt.state = .trigHigh)
    (hr : s.pwt.r ≠ 0#32) (hlen : es.length = s.pwt.r.toNat) :
    ∃ n e, n + 1 = es.length ∧ (countedDown s n).pwt.r - 1#32 = 0#32 ∧
      runTicks s es = (countedDown s n).tick e := by
  cases es using List.reverseRecOn with
  | nil => exact absurd (BitVec.eq_of_toNat_eq hlen.symm) hr
  | append_singleton es e =>
    rw [List.length_append, List.length_singleton] at hlen ⊢
    refine ⟨es.length, e, rfl, ?_, ?_⟩
    · rw [countedDown_r_succ, sub_ofNat_eq_zero_iff hlen.le, hlen]
    · rw [runTicks_concat, runTicks_trigger h (by omega)]

/-- The whole of TRIG_LOW: the trigger rises at its last tick (R172). -/
theorem runTicks_trigLow (h : s.pwt.state = .trigLow) (hr : s.pwt.r ≠ 0#32)
    (hlen : es.length = s.pwt.r.toNat) :
    runTicks s es = { s with
      trigOut := true
      pwt := { s.pwt with state := .trigHigh, r := s.par.trigHigh }
      ticks := s.ticks + BitVec.ofNat 32 es.length } := by
  obtain ⟨n, e, hn, hlast, hrun⟩ := runTicks_whole_trigger (.inl h) hr hlen
  rw [hrun, tick_trigLow_ends (s := countedDown s n) h hlast, countedDown_ticks_succ, hn]
  rfl

/-- The whole of TRIG_HIGH: the trigger falls at its last tick and the rise wait begins (R172). -/
theorem runTicks_trigHigh (h : s.pwt.state = .trigHigh) (hr : s.pwt.r ≠ 0#32)
    (hlen : es.length = s.pwt.r.toNat) :
    runTicks s es = { s with
      trigOut := false
      pwt := { s.pwt with state := .waitRise, r := s.pwt.timeout }
      ticks := s.ticks + BitVec.ofNat 32 es.length } := by
  obtain ⟨n, e, hn, hlast, hrun⟩ := runTicks_whole_trigger (.inr h) hr hlen
  rw [hrun, tick_trigHigh_ends (s := countedDown s n) h hlast, countedDown_ticks_succ, hn]
  rfl

end

/-- `s` with a measurement accepted and TRIG_LOW over after `n` ticks. -/
def triggerRaised (s : State) (n : Nat) : State :=
  { accepted .pulseMeasure s with
    trigOut := true
    pwt := { state := .trigHigh, r := s.par.trigHigh, timeout := s.pwtTimeout }
    ticks := s.ticks + BitVec.ofNat 32 n }

/-- Settles O25: the ticks fall into those of TRIG_LOW and those of TRIG_HIGH. -/
theorem triggerPulseLastsItsTicks : Obligations.TriggerPulseLastsItsTicks := by
  intro s t echo hidle ⟨_, hlow, hhigh, _⟩ hexec hlen
  obtain rfl : t = accepted .pulseMeasure s := eq_accepted_of_exec rfl hidle hexec
  have hhigh0 : s.par.trigHigh.toNat ≠ 0 := BitVec.toNat_ne_iff_ne.2 hhigh
  by_cases hcut : echo.length < s.par.trigLow.toNat
  · rw [runTicks_trigger (.inl rfl) hcut]
    refine ⟨(decide_eq_false (by omega)).symm, fun h => ?_⟩
    omega
  · obtain ⟨es, es', rfl, hes⟩ : ∃ es es', echo = es ++ es' ∧ es.length = s.par.trigLow.toNat :=
      ⟨_, _, (List.take_append_drop s.par.trigLow.toNat echo).symm, List.length_take_of_le (by omega)⟩
    have hraised : runTicks (accepted .pulseMeasure s) es = triggerRaised s es.length :=
      runTicks_trigLow rfl hlow hes
    rw [List.length_append] at hlen ⊢
    rw [runTicks_append, hraised]
    by_cases hend : es'.length < s.par.trigHigh.toNat
    · rw [runTicks_trigger (.inr rfl) hend]
      refine ⟨(decide_eq_true (by omega)).symm, fun h => ?_⟩
      omega
    · have hes' : es'.length = s.par.trigHigh.toNat := by omega
      rw [runTicks_trigHigh rfl hhigh hes']
      exact ⟨(decide_eq_false (by omega)).symm, fun _ => ⟨rfl, rfl⟩⟩

/-! ## The echo waits -/

section
variable {s : State} {k : Nat}

theorem countedDown_r_ne_zero (hk : k < s.pwt.r.toNat) : (countedDown s k).pwt.r ≠ 0#32 :=
  mt (sub_ofNat_eq_zero_iff hk.le).1 hk.ne

theorem countedDown_r_all (s : State) : (countedDown s s.pwt.r.toNat).pwt.r = 0#32 :=
  (sub_ofNat_eq_zero_iff le_rfl).2 rfl

/-- A wait of `k` equal samples each of which counts. -/
theorem runTicks_replicate {e : Level}
    (h : ∀ n < k, (countedDown s n).tick e = countedDown s (n + 1)) :
    runTicks s (List.replicate k e) = countedDown s k := by
  have hrun : runTicks s (List.replicate k e) = countedDown s (List.replicate k e).length :=
    runTicks_eq_countedDown fun n hn e' he =>
      List.eq_of_mem_replicate he ▸ h n (List.length_replicate (n := k) (a := e) ▸ hn)
  rwa [List.length_replicate] at hrun

/-- The rise wait while the samples are low (R174). -/
theorem runTicks_waitRise (h : s.pwt.state = .waitRise) (hk : k ≤ s.pwt.r.toNat) :
    runTicks s (List.replicate k false) = countedDown s k :=
  runTicks_replicate fun n hn =>
    tick_countedDown (tick_waitRise_low (s := countedDown s n) h (countedDown_r_ne_zero (hn.trans_le hk)))

/-- The fall wait while the samples are high (R175). -/
theorem runTicks_waitFall (h : s.pwt.state = .waitFall) (hk : k ≤ s.pwt.r.toNat) :
    runTicks s (List.replicate k true) = countedDown s k :=
  runTicks_replicate fun n hn =>
    tick_countedDown (tick_waitFall_high (s := countedDown s n) h (countedDown_r_ne_zero (hn.trans_le hk)))

/-- The first high sample within the budget of the rise wait is captured (R174). -/
theorem runTicks_waitRise_captures (h : s.pwt.state = .waitRise) (hk : k < s.pwt.r.toNat) :
    runTicks s (List.replicate k false ++ [true]) = { s with
      pwtStart := s.ticks + BitVec.ofNat 32 k
      pwt := { s.pwt with state := .waitFall, r := s.pwt.timeout }
      ticks := s.ticks + BitVec.ofNat 32 (k + 1) } := by
  rw [runTicks_concat, runTicks_waitRise h hk.le,
    tick_waitRise_high (s := countedDown s k) h (countedDown_r_ne_zero hk), countedDown_ticks_succ]
  rfl

/-- A rise wait that samples low for its whole budget ends at the next tick with an EchoTimeout (R174). -/
theorem runTicks_waitRise_expires (h : s.pwt.state = .waitRise) (e : Level) :
    runTicks s (List.replicate s.pwt.r.toNat false ++ [e]) = { s with
      pwt := { s.pwt with state := .idle, r := 0#32 }
      status := s.status.pwtFinishErr .rise
      ticks := s.ticks + BitVec.ofNat 32 (s.pwt.r.toNat + 1) } := by
  rw [runTicks_concat, runTicks_waitRise h le_rfl,
    tick_waitRise_expired (s := countedDown s s.pwt.r.toNat) h (countedDown_r_all s),
    countedDown_ticks_succ, ← countedDown_r_all s]
  rfl

/-- The first low sample within the budget of the fall wait ends the measurement (R175, R176). -/
theorem runTicks_waitFall_captures (h : s.pwt.state = .waitFall) (hk : k < s.pwt.r.toNat) :
    runTicks s (List.replicate k true ++ [false]) = { s with
      pwtEnd := s.ticks + BitVec.ofNat 32 k
      pwtDuration := s.ticks + BitVec.ofNat 32 k - s.pwtStart
      pwt := { s.pwt with state := .idle, r := s.pwt.r - BitVec.ofNat 32 k }
      status := s.status.pwtFinishOk
      ticks := s.ticks + BitVec.ofNat 32 (k + 1) } := by
  rw [runTicks_concat, runTicks_waitFall h hk.le,
    tick_waitFall_low (s := countedDown s k) h (countedDown_r_ne_zero hk), countedDown_ticks_succ]
  rfl

/-- A fall wait that samples high for its whole budget ends at the next tick with an EchoTimeout (R175). -/
theorem runTicks_waitFall_expires (h : s.pwt.state = .waitFall) (e : Level) :
    runTicks s (List.replicate s.pwt.r.toNat true ++ [e]) = { s with
      pwt := { s.pwt with state := .idle, r := 0#32 }
      status := s.status.pwtFinishErr .fall
      ticks := s.ticks + BitVec.ofNat 32 (s.pwt.r.toNat + 1) } := by
  rw [runTicks_concat, runTicks_waitFall h le_rfl,
    tick_waitFall_expired (s := countedDown s s.pwt.r.toNat) h (countedDown_r_all s),
    countedDown_ticks_succ, ← countedDown_r_all s]
  rfl

end

/-- Settles O26: the tick `F` begins the rise wait with the whole budget, which ends by a capture or by the
timeout. -/
theorem riseWaitCapturesOrTimesOut : Obligations.RiseWaitCapturesOrTimesOut := by
  intro s e₀ hstate hr
  rw [tick_trigHigh_ends hstate (by rw [hr]; rfl)]
  refine ⟨rfl, rfl, fun k hk => ?_, fun e hzero => ?_⟩
  · rw [runTicks_waitRise rfl hk.le, runTicks_waitRise_captures rfl hk]
    exact ⟨rfl, rfl, rfl⟩
  · rw [runTicks_waitRise rfl le_rfl, runTicks_waitRise_expires rfl e]
    exact ⟨rfl, rfl, rfl, hzero⟩

/-- Settles O27: the tick `S` begins the fall wait with the whole budget, which ends by a capture or by the
timeout. -/
theorem fallWaitCapturesOrTimesOut : Obligations.FallWaitCapturesOrTimesOut := by
  intro s hstate hr
  rw [tick_waitRise_high hstate hr]
  refine ⟨rfl, rfl, fun k hk => ?_, fun e hend hdur => ?_⟩
  · rw [runTicks_waitFall rfl hk.le, runTicks_waitFall_captures rfl hk]
    refine ⟨rfl, rfl, rfl, rfl, rfl, ?_⟩
    have hdiff (t : Word) : t + 1#32 + BitVec.ofNat 32 k - t = BitVec.ofNat 32 (k + 1) := by
      rw [BitVec.ofNat_add]
      bv_omega
    exact hdiff s.ticks
  · rw [runTicks_waitFall rfl le_rfl, runTicks_waitFall_expires rfl e]
    exact ⟨rfl, rfl, rfl, rfl, hend, hdur⟩

end Sys2Proof.Proofs

/-! SUPPORT. The host's reference driver against the block: the decode of a raw sample, the start of a driver
call, its end on a bus error, and a whole READ_REG issued by a call (48_host_reference.md). -/

namespace Sys2Proof.Proofs

open Sys2Proof.Machine Sys2Proof.Laws

/-! ## The decode of a raw sample (R210) -/

theorem toInt_byte (h : Byte) : h.toInt = if h.getLsbD 7 then (h.toNat : Int) - 256 else h.toNat := by
  rw [BitVec.toInt_eq_msb_cond, BitVec.msb_eq_getLsbD_last]
  rfl

/-- The high byte carries the sign; the low byte is read without one. -/
theorem decode16_eq (h l : Byte) : decode16 h l = 256 * h.toInt + l.toNat :=
  BitVec.toInt_append

/-- Settles O50: the sign of the whole is the sign of the high byte, and the range is that of 16 bits. -/
theorem rawSampleIsTwosComplement : Obligations.RawSampleIsTwosComplement := by
  intro h l
  refine ⟨?_, BitVec.le_toInt _, BitVec.toInt_le⟩
  rw [decode16_eq, toInt_byte]
  split <;> omega

/-! ## The start of a driver call (R204, R216) -/

/-- A host's turn with no driver call under way runs the first operation of the program (R75, R80). -/
theorem step_of_program {s : State} {es : List Event} {op : HostOp} {ops : List HostOp}
    (he : s.events = .host :: es) (hc : s.host.call = none) (hp : s.host.program = op :: ops) :
    step s = runOp op { s with events := es, host := { s.host with program := ops } } :=
  (step_of_events_cons he).trans (hostTurn_of_program (s := { s with events := es }) hc hp)

/-- The calls a driver state forbids: `enable()` before Verified, a sample read outside Enabled (R206 to R208,
R216). -/
theorem callAllowed_eq_false_iff (c : DriverCall) (d : DriverState) :
    callAllowed c d = false ↔
      (c = .enable ∧ d = .uninitialized) ∨
        ((c = .readAngularRateZ ∨ c = .readAccelerationXY) ∧ d ≠ .enabled) := by
  cases c <;> simp [callAllowed]

theorem callStart_of_forbidden {c : DriverCall} {s : State} (h : callAllowed c s.host.driver = false) :
    callStart c s = .refused .driverCallInWrongState := by
  simp [callStart, h]

theorem callStart_of_allowed {c : DriverCall} {s : State} (h : callAllowed c s.host.driver = true) :
    callStart c s = .next (s.callNext c (callCommands c) []) := by
  simp [callStart, h]

/-- Settles O51: the turn is the call's start, which looks at the driver's state alone. -/
theorem driverCallInWrongStateIsRefused : Obligations.DriverCallInWrongStateIsRefused := by
  intro s es ops c he hc hp
  have hstart := step_of_program he hc hp
  rw [← callAllowed_eq_false_iff]
  refine ⟨fun h => hstart.trans (callStart_of_forbidden h), fun h => ?_⟩
  refine (hstart.trans (callStart_of_allowed (Bool.eq_true_of_not_eq_false h))).trans ?_
  cases c <;> rfl

/-! ## What a driver call reads in STATUS (R117, R203) -/

theorem word_btErrCode (f : Status) : f.word.extractLsb' 3 2 = f.btErrCode := by
  apply BitVec.eq_of_getLsbD_eq
  intro i hi
  rw [BitVec.getLsbD_extractLsb', word_getLsbD f (by omega)]
  interval_cases i <;> rfl

/-- The error a call finds after a BT command: the one BT_ERRCODE names, where BT_ERR is 1 (R203). -/
theorem statusError_bt (f : Status) :
    statusError .bt f.word = if f.btErr then some (.bus (busErrorOf f.btErrCode)) else none := by
  have hbit : f.word.getLsbD 2 = f.btErr := word_getLsbD f (by decide)
  rw [statusError, hbit, word_btErrCode]

theorem busErrorOf_of_code {code : BitVec 2} (h : code = 0b01#2 ∨ code = 0b10#2) :
    busErrorOf code = if code = 0b01#2 then .noAck else .timeout := by
  rcases h with rfl | rfl <;> rfl

/-- A poll's mask meets STATUS in the unit's busy bit (R26, R117). -/
theorem word_and_busyMask_eq_zero {s : State} {u : BlockUnit} (h : s.busy u = false) :
    s.status.word &&& busyMask u = 0#32 := by
  cases u with
  | bt =>
    have hbit : s.status.word.getLsbD 0 = false := (word_getLsbD _ (by decide)).trans h
    exact (BitVec.and_twoPow _ 0).trans (if_neg (by rw [hbit]; nofun))
  | pwt =>
    have hbit : s.status.word.getLsbD 8 = false := (word_getLsbD _ (by decide)).trans h
    exact (BitVec.and_twoPow _ 8).trans (if_neg (by rw [hbit]; nofun))

/-! ## One access of a driver call -/

/-- A host's turn with a driver call under way is the call's next access (R75, R200). -/
theorem step_of_call {s : State} {es : List Event} {f : CallFrame} (he : s.events = .host :: es)
    (hc : s.host.call = some f) : step s = frameStep f { s with events := es } := by
  rw [step_of_events_cons he]
  simp only [runEvent, hostTurn, hc]

section
variable (c : DriverCall) (rest : List Instr) (got : List Word) {s : State}

/-- The write of a command for an idle unit: the unit accepts it, and the call polls next. -/
theorem frameStep_issue {i : Instr} (hw : i.WellFormed) (hidle : s.busy i.unit = false) :
    frameStep ⟨c, i :: rest, got, .issue⟩ s =
      .next (accepted i (s.setCall (some ⟨c, i :: rest, got, .poll⟩))) := by
  change frameIssue _ i s = _
  rw [frameIssue, if_neg (by simp [hidle]), cmdWrite_ok (commandsDecodeToThemselves i hw)]
  exact exec_of_idle hw hidle

/-- A poll that finds the unit idle ends the wait. -/
theorem frameStep_poll_idle {i : Instr} (hidle : s.busy i.unit = false) :
    frameStep ⟨c, i :: rest, got, .poll⟩ s =
      .next ((s.returnRead s.status.word).setCall (some ⟨c, i :: rest, got, .status⟩)) := by
  change Host.Outcome.next (framePoll _ i s) = _
  simp only [framePoll, State.regValue, word_and_busyMask_eq_zero hidle, if_true]

/-- A STATUS read that finds BT_ERR = 1 returns the error from the call, the driver's state as it was
(R203, R215). -/
theorem frameStep_status_btErr {i : Instr} (hu : i.unit = .bt) (herr : s.status.btErr = true) :
    frameStep ⟨c, i :: rest, got, .status⟩ s =
      .next ((s.returnRead s.status.word).callReturn s.host.driver
        (.bus (busErrorOf s.status.btErrCode))) := by
  change Host.Outcome.next (frameStatus _ i rest s) = _
  simp only [frameStatus, State.regValue, hu, statusError_bt, herr, if_true]
  rfl

/-- After a READ_REG without error the call reads RDATA next (R205, R207 to R209). -/
theorem frameStep_status_readReg_ok (dev : DevAddr) (sub : Byte) (herr : s.status.btErr = false) :
    frameStep ⟨c, .readReg dev sub :: rest, got, .status⟩ s =
      .next ((s.returnRead s.status.word).setCall (some ⟨c, .readReg dev sub :: rest, got, .data⟩)) := by
  change Host.Outcome.next (frameStatus _ _ rest s) = _
  simp [frameStatus, State.regValue, Instr.unit, statusError_bt, herr, resultReg]

/-- The read of RDATA completes a READ_REG of the call. -/
theorem frameStep_data_readReg (dev : DevAddr) (sub : Byte) :
    frameStep ⟨c, .readReg dev sub :: rest, got, .data⟩ s =
      .next ((s.returnRead s.rdata).callNext c rest (got ++ [s.rdata])) := rfl

end

/-- Settles O52: the STATUS read returns the error of the code found. -/
theorem busErrorEndsTheDriverCall : Obligations.BusErrorEndsTheDriverCall := by
  rintro s es ⟨c, todo, got, phase⟩ i rest he hc rfl rfl hu herr hcode
  rw [step_of_call he hc, frameStep_status_btErr c rest got (s := { s with events := es }) hu herr,
    busErrorOf_of_code hcode]
  rfl

/-! ## A whole READ_REG of a driver call -/

theorem run_succ {s t : State} (h : step s = .next t) (k : Nat) :
    Host.Core.run core (k + 1) s = Host.Core.run core k t := by
  simp only [Host.Core.run, show core.step s = .next t from h]

/-- A queued answer is the BT's (R80, R133). -/
theorem step_of_answer {s : State} {es : List Event} {d : Draw} (he : s.events = .answer d :: es) :
    step s = .next ({ s with events := es }.btAnswer d) :=
  step_of_events_cons he

/-- `s` with the events `es` to come and the driver call `f` under way, the host's reads so far being
`reads`. -/
def duringCall (s : State) (es : List Event) (reads : List Word) (f : CallFrame) : State :=
  { s with events := es, host := { s.host with call := some f, reads := reads } }

section
variable (c : DriverCall) (dev : DevAddr) (sub : Byte) (rest : List Instr) (got : List Word)
variable {s : State} {es : List Event}

/-- The Ok of the address phase begins the data phase (R134). -/
theorem step_addressAnswer_ok (s : State) (es : List Event) (reads : List Word) (f : CallFrame) (a : Byte) :
    step (accepted (.readReg dev sub) (duringCall s (.answer (.ok a) :: es) reads f)) =
      .next (readInData (duringCall s es reads f) dev sub) :=
  (step_of_answer (es := es) rfl).trans
    (congrArg Host.Outcome.next (btAnswer_accepted_readReg_ok (duringCall s es reads f) dev sub a))

/-- The Ok of the data phase ends the operation (R134). -/
theorem step_dataAnswer_ok (s : State) (es : List Event) (reads : List Word) (f : CallFrame) (b : Byte) :
    step (readInData (duringCall s (.answer (.ok b) :: es) reads f) dev sub) =
      .next (readEnded (duringCall s es reads f) dev sub
        [⟨.write dev [sub] true, .ok⟩, ⟨.read dev 1 false, .okData b⟩] (b.setWidth 32)
        s.status.btAccept.btFinishOk) :=
  (step_of_answer (es := es) rfl).trans
    (congrArg Host.Outcome.next (btAnswer_readInData_ok (duringCall s es reads f) dev sub b))

/-- The call's CMD write on an idle BT and two Ok answers are the whole operation of a READ_REG (R134). -/
theorem run_readReg_of_call {a b : Byte} (hidle : s.status.btBusy = false)
    (hc : s.host.call = some ⟨c, .readReg dev sub :: rest, got, .issue⟩)
    (he : s.events = .host :: .answer (.ok a) :: .answer (.ok b) :: es) (k : Nat) :
    Host.Core.run core (k + 3) s = Host.Core.run core k
      (readEnded (duringCall s es s.host.reads ⟨c, .readReg dev sub :: rest, got, .poll⟩) dev sub
        [⟨.write dev [sub] true, .ok⟩, ⟨.read dev 1 false, .okData b⟩] (b.setWidth 32)
        s.status.btAccept.btFinishOk) := by
  have hissue := (step_of_call he hc).trans (frameStep_issue c rest got rfl hidle)
  exact (run_succ hissue _).trans ((run_succ (step_addressAnswer_ok dev sub s _ _ _ a) _).trans
    (run_succ (step_dataAnswer_ok dev sub s es _ _ b) _))

/-- Once the operation has ended without error, a poll, a STATUS read and a RDATA read complete the READ_REG
of the call (R117, R205). -/
theorem run_reads_of_call (hidle : s.status.btBusy = false) (herr : s.status.btErr = false)
    (hc : s.host.call = some ⟨c, .readReg dev sub :: rest, got, .poll⟩)
    (he : s.events = .host :: .host :: .host :: es) (k : Nat) :
    Host.Core.run core (k + 3) s = Host.Core.run core k
      ((duringCall s es (s.host.reads ++ [s.status.word] ++ [s.status.word] ++ [s.rdata])
        ⟨c, .readReg dev sub :: rest, got, .data⟩).callNext c rest (got ++ [s.rdata])) := by
  have hpoll := (step_of_call he hc).trans (frameStep_poll_idle c rest got hidle)
  have hstatus (reads : List Word) :
      step (duringCall s (.host :: .host :: es) reads ⟨c, .readReg dev sub :: rest, got, .status⟩) =
        .next (duringCall s (.host :: es) (reads ++ [s.status.word])
          ⟨c, .readReg dev sub :: rest, got, .data⟩) :=
    (step_of_call rfl rfl).trans (frameStep_status_readReg_ok c rest got dev sub herr)
  have hdata (reads : List Word) :
      step (duringCall s (.host :: es) reads ⟨c, .readReg dev sub :: rest, got, .data⟩) =
        .next ((duringCall s es (reads ++ [s.rdata]) ⟨c, .readReg dev sub :: rest, got, .data⟩).callNext
          c rest (got ++ [s.rdata])) :=
    (step_of_call rfl rfl).trans (frameStep_data_readReg c rest got dev sub)
  exact (run_succ hpoll _).trans ((run_succ (hstatus _) _).trans (run_succ (hdata _) _))

/-- A READ_REG of a driver call that no bus error meets: its two transfers join the trace, and the call goes on
with the byte read (R117, R134). -/
theorem run_whole_readReg_of_call {a b : Byte} (hidle : s.status.btBusy = false)
    (hc : s.host.call = some ⟨c, .readReg dev sub :: rest, got, .issue⟩)
    (he : s.events = [.host, .answer (.ok a), .answer (.ok b), .host, .host, .host] ++ es) :
    ∃ reads f, Host.Core.run core 6 s = .next
      ((readEnded (duringCall s es reads f) dev sub
        [⟨.write dev [sub] true, .ok⟩, ⟨.read dev 1 false, .okData b⟩] (b.setWidth 32)
        s.status.btAccept.btFinishOk).callNext c rest (got ++ [b.setWidth 32])) :=
  ⟨_, _, (run_readReg_of_call c dev sub rest got hidle hc he 3).trans
    (run_reads_of_call c dev sub rest got (es := es) rfl rfl rfl rfl 0)⟩

end

/-! ## `identify()` (R205) -/

theorem gotByte_singleton (b : Byte) : gotByte [b.setWidth 32] 0 = b :=
  (BitVec.setWidth_setWidth_of_le b (by decide)).trans (BitVec.setWidth_eq b)

theorem resultAfter_identify (b : Byte) (par : Params) :
    resultAfter .identify [b.setWidth 32] par = if b = 0x69#8 then .ok else .identityMismatch := by
  simp only [resultAfter, gotByte_singleton, idExpected]

theorem stateAfter_identify (b : Byte) (d : DriverState) :
    stateAfter .identify [b.setWidth 32] d = if b = 0x69#8 ∧ d = .uninitialized then .verified else d := by
  simp only [stateAfter, gotByte_singleton, idExpected]

/-- Settles O53: the call's one READ_REG runs, and the byte it read fixes the call's result and the driver's
next state. -/
theorem identifyVerifiesOnlyTheExpectedByte : Obligations.IdentifyVerifiesOnlyTheExpectedByte := by
  intro s a b es ops hidle hc hp he
  have hstart := (step_of_program he hc hp).trans (callStart_of_allowed rfl)
  obtain ⟨reads, f, hrun⟩ := run_whole_readReg_of_call .identify devImu 0x0F#8 [] []
    (s := { s with
      events := [.host, .answer (.ok a), .answer (.ok b), .host, .host, .host] ++ es
      host := { s.host with
        program := ops, call := some ⟨.identify, [.readReg devImu 0x0F#8], [], .issue⟩ } })
    hidle rfl rfl
  refine ⟨_, (run_succ hstart 6).trans hrun, rfl, rfl, rfl, rfl, rfl,
    fun hb => ⟨?_, ?_⟩, fun hb => ⟨?_, ?_⟩⟩
  · exact congrArg (s.host.results ++ [·]) ((resultAfter_identify b s.par).trans (if_pos hb))
  · exact (stateAfter_identify b s.host.driver).trans (by simp [hb])
  · exact congrArg (s.host.results ++ [·]) ((resultAfter_identify b s.par).trans (if_neg hb))
  · exact (stateAfter_identify b s.host.driver).trans (by simp [hb])

end Sys2Proof.Proofs

/-! SUPPORT. What the block reports instead of going on: a command for a busy unit, the flags of the command
port, and a wait with no ticks remaining (10_state.md R30, 60_exceptions.md R236, R241, R246). -/

namespace Sys2Proof.Proofs

open Sys2Proof.Machine Sys2Proof.Laws Sys2Proof.Safety

/-! ## A busy unit -/

/-- A well-formed command whose unit is busy is rejected (R113, R236). -/
theorem exec_of_busy {i : Instr} {s : State} (hw : i.WellFormed) (hbusy : s.busy i.unit = true) :
    exec i s = .next s.rejectBusy := by
  rw [exec_eq, if_pos hw, if_pos hbusy]

/-- Settles O15: a word that decodes is the word of a well-formed command, which the busy unit rejects. -/
theorem busyUnitRejectsTheCommand : Obligations.BusyUnitRejectsTheCommand := by
  intro s w i hd hbusy
  obtain ⟨hw, -⟩ := decodedWordsEncodeBack w i hd
  have hexec : exec i s = .next s.rejectBusy := exec_of_busy hw hbusy
  exact ⟨(hostWrite_cmd_ok hd s).trans hexec, hexec⟩

/-! ## The flags of the command port -/

/-- A flag of the command port that is 1 in `f` is 1 in `g`. -/
abbrev KeepsPortFlags (f g : Status) : Prop :=
  (f.cmdIllegal = true → g.cmdIllegal = true) ∧ (f.cmdReject = true → g.cmdReject = true)

theorem keepsPortFlags_refl (f : Status) : KeepsPortFlags f f := ⟨id, id⟩

/-- An answer reports the end of an operation, which is no flag of the command port. -/
theorem keepsPortFlags_btAnswer (s : State) (d : Draw) : KeepsPortFlags s.status (s.btAnswer d).status := by
  rcases btAnswer_status_cases s d with h | ⟨-, h | ⟨k, st, h⟩⟩ <;> rw [h] <;> exact ⟨id, id⟩

/-- A tick reports the end of a measurement, which is no flag of the command port. -/
theorem keepsPortFlags_tick (s : State) (e : Level) : KeepsPortFlags s.status (s.tick e).status := by
  rcases tick_status_cases s e with h | ⟨-, h | ⟨ph, h⟩⟩ <;> rw [h] <;> exact ⟨id, id⟩

theorem keepsPortFlags_accepted (i : Instr) (s : State) : KeepsPortFlags s.status (accepted i s).status := by
  cases i <;> exact ⟨id, id⟩

/-- A write to CMD sets a flag of the command port or none, and clears none (R246). -/
theorem keepsPortFlags_of_cmdWrite {w : Word} {s t : State} (h : cmdWrite w s = .next t) :
    KeepsPortFlags s.status t.status := by
  cases hd : decode w with
  | ok i =>
    rcases exec_next ((cmdWrite_ok hd s).symm.trans h) with rfl | rfl | ⟨-, -, rfl⟩
    · exact ⟨fun _ => rfl, id⟩
    · exact ⟨id, fun _ => rfl⟩
    · exact keepsPortFlags_accepted i s
  | error e =>
    cases (cmdWrite_error hd s).symm.trans h
    exact ⟨fun _ => rfl, id⟩

/-- A register write is the W1C write to STATUS, or it keeps the flags of the command port. -/
theorem regWrite_portFlags {r : Reg} {v : Word} {s t : State} (h : regWrite r v s = .next t) :
    r = .status ∧ t.status = s.status.writeOneToClear v ∨ KeepsPortFlags s.status t.status := by
  cases r
  case cmd => exact .inr (keepsPortFlags_of_cmdWrite h)
  case status =>
    cases h
    exact .inl ⟨rfl, rfl⟩
  all_goals
    cases h
    exact .inr ⟨id, id⟩

/-- What a step does to the flags of the command port: it is a reset, it is the host's W1C write to STATUS, or
it keeps them. -/
theorem step_portFlags {s t : State} (h : step s = .next t) :
    s.takeEvent.1 = .reset ∨
    (∃ v, stepWrite s = some (0x04, v) ∧ t.status = s.status.writeOneToClear v) ∨
    KeepsPortFlags s.status t.status := by
  have htake := status_of_sameBlock (sameBlock_takeEvent s)
  rcases step_next h with ⟨d, -, rfl⟩ | ⟨d, -, rfl⟩ | ⟨e, -, rfl⟩ | ⟨he, -⟩ | ⟨-, hs⟩ |
    ⟨-, s', off, v, r, hs, hwrite, hr, hw⟩
  · exact .inr (.inr (htake ▸ keepsPortFlags_btAnswer _ d))
  · exact .inr (.inr (htake ▸ keepsPortFlags_refl _))
  · exact .inr (.inr (htake ▸ keepsPortFlags_tick _ e))
  · exact .inl he
  · exact .inr (.inr (status_of_sameBlock hs ▸ keepsPortFlags_refl _))
  · rw [← status_of_sameBlock hs]
    rcases regWrite_portFlags hw with ⟨rfl, hstatus⟩ | hkeep
    · exact .inr (.inl ⟨v, by rw [hwrite, offset_of_regAt hr nofun]; rfl, hstatus⟩)
    · exact .inr (.inr hkeep)

/-- Settles O31: of the steps only the host's W1C write and a reset clear a flag, and the write clears it only
where its bit is 1. -/
theorem commandPortFlagsAreSticky : Obligations.CommandPortFlagsAreSticky := by
  intro s t h
  rcases step_portFlags h with he | ⟨v, hwrite, hstatus⟩ | ⟨hillegal, hreject⟩
  · exact ⟨fun _ _ => .inl he, fun _ _ => .inl he⟩
  · refine ⟨fun h1 h0 => .inr ⟨v, hwrite, ?_⟩, fun h1 h0 => .inr ⟨v, hwrite, ?_⟩⟩
    · simpa [hstatus, h1] using h0
    · simpa [hstatus, h1] using h0
  · exact ⟨fun h1 h0 => absurd (hillegal h1) (by simp [h0]), fun h1 h0 => absurd (hreject h1) (by simp [h0])⟩

/-! ## A wait with no ticks remaining -/

/-- Settles O28: a wait with no ticks remaining expires, whatever the tick samples. -/
theorem timeoutCheckPrecedesTheSample : Obligations.TimeoutCheckPrecedesTheSample :=
  fun _ e hr => ⟨fun h => tick_waitRise_expired h hr e, fun h => tick_waitFall_expired h hr e⟩

end Sys2Proof.Proofs

/-! SUPPORT. What the register window reads after a reset, and what a reset event does (10_state.md R48,
70_reset_and_hazards.md R260 to R262). -/

namespace Sys2Proof.Proofs

open Sys2Proof.Machine Sys2Proof.Laws

/-- STATUS with every field cleared reads 0 (R26, R48). -/
@[simp] theorem word_zero : Status.zero.word = 0x00000000#32 := by decide

/-- After a reset every register but the tick counter reads 0, whatever it held (R48, R260). -/
theorem regValue_blockReset (s : State) {r : Reg} (hr : r ≠ .ticks) :
    s.blockReset.regValue r = 0x00000000#32 := by
  cases r with
  | status => exact word_zero
  | ticks => exact absurd rfl hr
  | _ => rfl

/-- Settles O40: the step is the block's reset of the state without the event, and the reset's own laws say
what that clears and what it leaves. -/
theorem resetAbortsOperations : Obligations.ResetAbortsOperations := by
  intro s es he
  have hstep : step s = .next (State.blockReset { s with events := es }) := step_of_events_cons he
  refine ⟨_, hstep, fun _ _ _ hr => regValue_blockReset _ hr, ?_⟩
  simp

end Sys2Proof.Proofs

/-! SUPPORT. The consistency of STATUS with the two units: each unit's part of R49's list, which the other
unit's events leave alone (10_state.md section 7). -/

namespace Sys2Proof.Proofs

open Sys2Proof.Machine Sys2Proof.Laws Sys2Proof.Safety

/-! ## The two parts of R49's list -/

/-- The BT's part of `Consistent` (R40, R41). -/
abbrev TransactorConsistent (s : State) : Prop :=
  (s.status.btBusy = true ↔ s.bt.state ≠ .idle) ∧
  (s.bt.held = true ↔ s.bt.state = .data) ∧
  (s.status.btErrCode ≠ 0b00#2 ↔ s.status.btErrStep ≠ 0b00#2) ∧
  (s.status.btErrCode ≠ 0b00#2 → s.status.btBusy = false)

/-- The PWT's part of `Consistent` (R42, R180). -/
abbrev TimerConsistent (s : State) : Prop :=
  (s.status.pwtBusy = true ↔ s.pwt.state ≠ .idle) ∧
  (s.trigOut = true → s.pwt.state = .trigHigh) ∧
  (s.status.pwtErrPhase ≠ 0b00#2 → s.status.pwtBusy = false)

theorem consistent_iff {s : State} : Consistent s ↔ TransactorConsistent s ∧ TimerConsistent s := by
  constructor
  · rintro ⟨hbt, hpwt, hheld, htrig, hcode, hbtErr, hpwtErr⟩
    exact ⟨⟨hbt, hheld, hcode, hbtErr⟩, hpwt, htrig, hpwtErr⟩
  · rintro ⟨⟨hbt, hheld, hcode, hbtErr⟩, hpwt, htrig, hpwtErr⟩
    exact ⟨hbt, hpwt, hheld, htrig, hcode, hbtErr, hpwtErr⟩

theorem transactorConsistent_congr {s t : State} (hbt : t.bt = s.bt)
    (hreport : SameBtReport s.status t.status) (hs : TransactorConsistent s) : TransactorConsistent t := by
  obtain ⟨hbusy, hcode, hstep⟩ := hreport
  simpa only [TransactorConsistent, hbt, hbusy, hcode, hstep] using hs

theorem timerConsistent_congr {s t : State} (hsame : SameTimer s t)
    (hreport : SamePwtReport s.status t.status) (hs : TimerConsistent s) : TimerConsistent t := by
  obtain ⟨hpwt, -, -, -, htrig, -⟩ := hsame
  obtain ⟨hbusy, hphase⟩ := hreport
  simpa only [TimerConsistent, hpwt, htrig, hbusy, hphase] using hs

/-- With the BT in IDLE the invariant says that BT_BUSY and `bt.held` are 0 and the error fields agree. -/
theorem transactorConsistent_of_idle {s : State} (hstate : s.bt.state = .idle)
    (hbusy : s.status.btBusy = false) (hheld : s.bt.held = false)
    (hcode : s.status.btErrCode ≠ 0b00#2 ↔ s.status.btErrStep ≠ 0b00#2) : TransactorConsistent s :=
  ⟨by simp [hstate, hbusy], by simp [hstate, hheld], hcode, fun _ => hbusy⟩

/-- With the PWT in IDLE the invariant says that PWT_BUSY and the trigger are 0. -/
theorem timerConsistent_of_idle {s : State} (hstate : s.pwt.state = .idle)
    (hbusy : s.status.pwtBusy = false) (htrig : s.trigOut = false) : TimerConsistent s :=
  ⟨by simp [hstate, hbusy], by simp [htrig], fun _ => hbusy⟩

/-! ## Answers -/

/-- The report of a failed operation sets both error fields (R132). -/
theorem btFinishErr_codes (f : Status) (k : BusErrorKind) (st : BusStep) :
    (f.btFinishErr k st).btErrCode ≠ 0b00#2 ↔ (f.btFinishErr k st).btErrStep ≠ 0b00#2 := by
  have hcode : errCode k ≠ 0b00#2 := by cases k <;> decide
  have hstep : errStep st ≠ 0b00#2 := by cases st <;> decide
  exact iff_of_true hcode hstep

/-- An answer holds the bus in leading to DATA and releases it in ending the operation; a single write never
held it (R41). -/
theorem transactorConsistent_btAnswer {s : State} (hs : TransactorConsistent s) (d : Draw) :
    TransactorConsistent (s.btAnswer d) := by
  obtain ⟨hbusy, hheld, hcode, hclear⟩ := hs
  cases h : s.bt.state with
  | idle =>
    rw [btAnswer_idle h]
    exact ⟨hbusy, hheld, hcode, hclear⟩
  | addr =>
    cases d with
    | ok b =>
      rw [btAnswer_addr_ok h]
      exact ⟨by simpa [h] using hbusy, by simp, hcode, hclear⟩
    | error k =>
      rw [btAnswer_addr_error h]
      exact transactorConsistent_of_idle rfl rfl rfl (btFinishErr_codes _ k _)
  | data =>
    cases d with
    | ok b =>
      rw [btAnswer_data_ok h]
      exact transactorConsistent_of_idle rfl rfl rfl hcode
    | error k =>
      rw [btAnswer_data_error h]
      exact transactorConsistent_of_idle rfl rfl rfl (btFinishErr_codes _ k _)
  | write =>
    have hfree : s.bt.held = false := by simpa [h] using hheld
    cases d with
    | ok b =>
      rw [btAnswer_write_ok h]
      exact transactorConsistent_of_idle rfl rfl hfree hcode
    | error k =>
      rw [btAnswer_write_error h]
      exact transactorConsistent_of_idle rfl rfl hfree (btFinishErr_codes _ k _)

theorem consistent_btAnswer {s : State} (hs : Consistent s) (d : Draw) : Consistent (s.btAnswer d) := by
  obtain ⟨hbt, hpwt⟩ := consistent_iff.1 hs
  exact consistent_iff.2 ⟨transactorConsistent_btAnswer hbt d,
    timerConsistent_congr (sameTimer_btAnswer s d) (samePwtReport_btAnswer s d) hpwt⟩

/-! ## Ticks -/

/-- What a tick can do: pass an idle PWT by; count, in a trigger phase with more than one tick to go or in a
wait with ticks remaining; end TRIG_LOW or TRIG_HIGH; or end a wait, by its timeout or by the sample it waits
for (R172). -/
theorem tick_cases (s : State) (e : Level) :
    s.pwt.state = .idle ∧ s.tick e = { s with ticks := s.ticks + 1#32 } ∨
    ((s.pwt.state = .trigLow ∨ s.pwt.state = .trigHigh) ∧ s.pwt.r - 1#32 ≠ 0#32 ∨
      (s.pwt.state = .waitRise ∨ s.pwt.state = .waitFall) ∧ s.pwt.r ≠ 0#32) ∧
      s.tick e = countedDown s 1 ∨
    s.pwt.state = .trigLow ∧ s.tick e = { s with
      trigOut := true
      pwt := { s.pwt with state := .trigHigh, r := s.par.trigHigh }
      ticks := s.ticks + 1#32 } ∨
    s.pwt.state = .trigHigh ∧ s.tick e = { s with
      trigOut := false
      pwt := { s.pwt with state := .waitRise, r := s.pwt.timeout }
      ticks := s.ticks + 1#32 } ∨
    (∃ ph, (s.pwt.state = .waitRise ∨ s.pwt.state = .waitFall) ∧ s.tick e = { s with
      pwt := { s.pwt with state := .idle }
      status := s.status.pwtFinishErr ph
      ticks := s.ticks + 1#32 }) ∨
    s.pwt.state = .waitRise ∧ s.pwt.r ≠ 0#32 ∧ s.tick e = { s with
      pwtStart := s.ticks
      pwt := { s.pwt with state := .waitFall, r := s.pwt.timeout }
      ticks := s.ticks + 1#32 } ∨
    s.pwt.state = .waitFall ∧ s.pwt.r ≠ 0#32 ∧ s.tick e = { s with
      pwtEnd := s.ticks
      pwtDuration := s.ticks - s.pwtStart
      pwt := { s.pwt with state := .idle }
      status := s.status.pwtFinishOk
      ticks := s.ticks + 1#32 } := by
  cases h : s.pwt.state with
  | idle => exact .inl ⟨rfl, tick_idle h e⟩
  | trigLow =>
    by_cases hr : s.pwt.r - 1#32 = 0#32
    · exact .inr (.inr (.inl ⟨rfl, tick_trigLow_ends h hr e⟩))
    · exact .inr (.inl ⟨.inl ⟨.inl rfl, hr⟩, tick_trigLow_counts h hr e⟩)
  | trigHigh =>
    by_cases hr : s.pwt.r - 1#32 = 0#32
    · exact .inr (.inr (.inr (.inl ⟨rfl, tick_trigHigh_ends h hr e⟩)))
    · exact .inr (.inl ⟨.inl ⟨.inr rfl, hr⟩, tick_trigHigh_counts h hr e⟩)
  | waitRise =>
    by_cases hr : s.pwt.r = 0#32
    · exact .inr (.inr (.inr (.inr (.inl ⟨.rise, .inl rfl, tick_waitRise_expired h hr e⟩))))
    · cases e with
      | false => exact .inr (.inl ⟨.inr ⟨.inl rfl, hr⟩, tick_waitRise_low h hr⟩)
      | true => exact .inr (.inr (.inr (.inr (.inr (.inl ⟨rfl, hr, tick_waitRise_high h hr⟩)))))
  | waitFall =>
    by_cases hr : s.pwt.r = 0#32
    · exact .inr (.inr (.inr (.inr (.inl ⟨.fall, .inr rfl, tick_waitFall_expired h hr e⟩))))
    · cases e with
      | false => exact .inr (.inr (.inr (.inr (.inr (.inr ⟨rfl, hr, tick_waitFall_low h hr⟩)))))
      | true => exact .inr (.inl ⟨.inr ⟨.inr rfl, hr⟩, tick_waitFall_high h hr⟩)

/-- A tick raises the trigger in entering TRIG_HIGH only, lowers it in leaving, and clears PWT_BUSY in
entering IDLE (R172, R180). -/
theorem timerConsistent_tick {s : State} (hs : TimerConsistent s) (e : Level) :
    TimerConsistent (s.tick e) := by
  obtain ⟨hbusy, htrig, hclear⟩ := hs
  rcases tick_cases s e with ⟨-, h⟩ | ⟨-, h⟩ | ⟨hstate, h⟩ | ⟨hstate, h⟩ | ⟨ph, hstate, h⟩ |
    ⟨hstate, -, h⟩ | ⟨hstate, -, h⟩ <;> rw [h]
  · exact ⟨hbusy, htrig, hclear⟩
  · exact ⟨hbusy, htrig, hclear⟩
  · exact ⟨by simpa [hstate] using hbusy, fun _ => rfl, hclear⟩
  · exact ⟨by simpa [hstate] using hbusy, nofun, hclear⟩
  · have hlow : s.trigOut = false := by rcases hstate with hstate | hstate <;> simpa [hstate] using htrig
    exact timerConsistent_of_idle rfl rfl hlow
  · exact ⟨by simpa [hstate] using hbusy, by simpa [hstate] using htrig, hclear⟩
  · exact timerConsistent_of_idle rfl rfl (by simpa [hstate] using htrig)

theorem consistent_tick {s : State} (hs : Consistent s) (e : Level) : Consistent (s.tick e) := by
  obtain ⟨hbt, hpwt⟩ := consistent_iff.1 hs
  obtain ⟨hsame, -⟩ := sameTransactor_tick s e
  exact consistent_iff.2
    ⟨transactorConsistent_congr hsame (sameBtReport_tick s e) hbt, timerConsistent_tick hpwt e⟩

/-! ## The host's writes and the reset -/

theorem sameTimer_of_registersOnly {s t : State} (h : RegistersOnly s t) : SameTimer s t := by
  rw [h]
  exact ⟨rfl, rfl, rfl, rfl, rfl, rfl⟩

theorem consistent_of_registersOnly {s t : State} (h : RegistersOnly s t) (hs : Consistent s) :
    Consistent t := by
  obtain ⟨hbt, hpwt⟩ := consistent_iff.1 hs
  obtain ⟨hsame, -⟩ := sameBus_of_registersOnly h
  obtain ⟨hbtReport, hpwtReport⟩ := sameReports_of_registersOnly h
  exact consistent_iff.2 ⟨transactorConsistent_congr hsame hbtReport hbt,
    timerConsistent_congr (sameTimer_of_registersOnly h) hpwtReport hpwt⟩

/-- What is the same block is consistent with it: the invariant speaks of the block alone. -/
theorem consistent_of_sameBlock {s t : State} (h : SameBlock s t) (hs : Consistent s) : Consistent t := by
  obtain ⟨_, _, _, rfl⟩ := sameBlock_iff.1 h
  exact hs

/-- An accepted PULSE_MEASURE makes the PWT consistent, whatever it was before (R172). -/
theorem timerConsistent_accepted_pulseMeasure (s : State) :
    TimerConsistent (accepted .pulseMeasure s) := by
  simp [accepted, TimerConsistent, Status.pwtAccept]

/-- An accepted BT command makes the unit busy with its error fields cleared; the bus was free, for the BT was
in IDLE (R41, R131). -/
theorem transactorConsistent_accepted {s : State} {i : Instr} (hu : i.unit = .bt)
    (hfree : s.bt.held = false) : TransactorConsistent (accepted i s) := by
  cases i with
  | pulseMeasure => cases hu
  | _ => simp [accepted, TransactorConsistent, Status.btAccept, hfree]

/-- An operation on the transactor's side leaves the PWT's report in STATUS alone, PWT_DONE included. -/
theorem KeepsToTransactor.samePwtStatus {f : State → State} (hf : KeepsToTransactor f) (s : State) :
    SamePwtReport s.status (f s).status ∧ (f s).status.pwtDone = s.status.pwtDone := by
  rw [← hf.withTimer_eq s]
  exact ⟨⟨rfl, rfl⟩, rfl⟩

/-- An accepted command starts on its idle unit and leaves the other unit alone (R114). -/
theorem consistent_accepted {s : State} {i : Instr} (hidle : s.busy i.unit = false) (hs : Consistent s) :
    Consistent (accepted i s) := by
  obtain ⟨hbt, hpwt⟩ := consistent_iff.1 hs
  cases hu : i.unit with
  | bt =>
    obtain ⟨-, hheld, -⟩ := hbt
    have hstate : s.bt.state = .idle := (busy_bt_eq_false_iff hs).1 (hu ▸ hidle)
    have hfree : s.bt.held = false := by simpa [hstate] using hheld
    obtain ⟨-, htimer, -⟩ := sameOutsideTransactor_accepted hu s
    obtain ⟨hreport, -⟩ := (keepsToTransactor_accepted hu).samePwtStatus s
    exact consistent_iff.2
      ⟨transactorConsistent_accepted hu hfree, timerConsistent_congr htimer hreport hpwt⟩
  | pwt =>
    cases i with
    | pulseMeasure => exact consistent_iff.2 ⟨hbt, timerConsistent_accepted_pulseMeasure s⟩
    | _ => cases hu

theorem consistent_blockReset (s : State) : Consistent s.blockReset :=
  consistent_iff.2 ⟨transactorConsistent_of_idle rfl rfl rfl Iff.rfl, timerConsistent_of_idle rfl rfl rfl⟩

/-- Settles O43: every event keeps its unit's part of the list and leaves the other unit's fields alone, and
a host write changes none of the fields the list names but by an acceptance. -/
theorem stepKeepsStatusConsistent : Obligations.StepKeepsStatusConsistent := by
  refine ⟨invariantsHoldAtReset.1, fun s t hs h => ?_⟩
  obtain ⟨s', hblock, hstep⟩ := step_block h
  have hs' := consistent_of_sameBlock hblock hs
  rcases hstep with ⟨d, -, rfl⟩ | rfl | ⟨e, -, rfl⟩ | ⟨-, rfl⟩ | hr | ⟨w, i, -, -, -, hidle, rfl⟩
  · exact consistent_btAnswer hs' d
  · exact hs'
  · exact consistent_tick hs' e
  · exact consistent_blockReset s'
  · exact consistent_of_registersOnly hr hs'
  · exact consistent_accepted hidle hs'

end Sys2Proof.Proofs

/-! SUPPORT. The measurement's invariant: the result registers, the remaining ticks and the counter agree with
the PWT's state, so that a success is within the budget and every measurement ends in time (42_pulse_timer.md
R172 to R181). -/

namespace Sys2Proof.Proofs

open Sys2Proof.Machine Sys2Proof.Laws Sys2Proof.Safety

/-! ## Events that leave the timer alone -/

/-- The invariant speaks of the timer, its results, its phase report and the counter, and of PWT_DONE only
where it is set. -/
theorem measurementFits_congr {s t : State} (hsame : SameTimer s t)
    (hphase : t.status.pwtErrPhase = s.status.pwtErrPhase)
    (hdone : t.status.pwtDone = true → s.status.pwtDone = true) (hs : MeasurementFits s) :
    MeasurementFits t := by
  obtain ⟨hpwt, hstart, hend, hduration, -, hticks⟩ := hsame
  obtain ⟨hidle, hphases⟩ := hs
  simp only [MeasurementFits, ResultFits, ResultsZero, hpwt, hstart, hend, hduration, hticks, hphase]
  exact ⟨fun h h' => hidle h (hdone h'), hphases⟩

theorem measurementFits_of_sameBlock {s t : State} (h : SameBlock s t) (hs : MeasurementFits s) :
    MeasurementFits t := by
  obtain ⟨_, _, _, rfl⟩ := sameBlock_iff.1 h
  exact hs

theorem measurementFits_btAnswer {s : State} (hs : MeasurementFits s) (d : Draw) :
    MeasurementFits (s.btAnswer d) := by
  obtain ⟨⟨-, hphase⟩, hdone⟩ := (keepsToTransactor_btAnswer d).samePwtStatus s
  exact measurementFits_congr (sameTimer_btAnswer s d) hphase hdone.le hs

/-- No register write sets PWT_DONE: an acceptance clears it or leaves it, and a W1C write can only
clear it (R27, R29). -/
theorem pwtDone_of_regWrite {r : Reg} {v : Word} {s t : State} (h : regWrite r v s = .next t)
    (hdone : t.status.pwtDone = true) : s.status.pwtDone = true := by
  cases r
  case cmd =>
    cases hd : decode v with
    | ok i =>
      rcases exec_next ((cmdWrite_ok hd s).symm.trans h) with rfl | rfl | ⟨-, -, rfl⟩
      · exact hdone
      · exact hdone
      · cases i with
        | pulseMeasure => cases hdone
        | _ => exact hdone
    | error e =>
      cases (cmdWrite_error hd s).symm.trans h
      exact hdone
  case status =>
    cases h
    exact (Bool.and_eq_true_iff.1 hdone).1
  all_goals
    cases h
    exact hdone

/-! ## The start of a measurement -/

/-- An accepted PULSE_MEASURE clears the results and begins TRIG_LOW with its legal length (R172). -/
theorem measurementFits_accepted_pulseMeasure {s : State} (hlegal : s.par.Legal) :
    MeasurementFits (accepted .pulseMeasure s) := by
  obtain ⟨-, hlow, -⟩ := hlegal
  exact ⟨nofun, fun _ => ⟨⟨rfl, rfl, rfl⟩, hlow⟩, nofun, nofun, nofun⟩

theorem measurementFits_accepted {s : State} (hlegal : s.par.Legal) (hs : MeasurementFits s) (i : Instr) :
    MeasurementFits (accepted i s) := by
  cases hu : i.unit with
  | bt =>
    obtain ⟨-, htimer, -⟩ := sameOutsideTransactor_accepted hu s
    obtain ⟨⟨-, hphase⟩, hdone⟩ := (keepsToTransactor_accepted hu).samePwtStatus s
    exact measurementFits_congr htimer hphase hdone.le hs
  | pwt =>
    cases i with
    | pulseMeasure => exact measurementFits_accepted_pulseMeasure hlegal
    | _ => cases hu

/-! ## Ticks -/

/-- A tick that counts in the fall wait: the counter gains what the remaining ticks lose. -/
theorem ticks_add_one_of_fallWait {ticks start timeout r : Word} (h : ticks = start + 1#32 + (timeout - r)) :
    ticks + 1#32 = start + 1#32 + (timeout - (r - 1#32)) := by
  bv_omega

/-- The duration at the falling edge, with `r` ticks of the budget remaining (R176, R177). -/
theorem duration_bounds {ticks start timeout r : Word} (h : ticks = start + 1#32 + (timeout - r))
    (hr : r ≠ 0#32) (hle : r.toNat ≤ timeout.toNat) :
    1 ≤ (ticks - start).toNat ∧ (ticks - start).toNat ≤ timeout.toNat := by
  bv_omega

theorem toNat_sub_one {r : Word} (hr : r ≠ 0#32) : (r - 1#32).toNat + 1 = r.toNat := by
  bv_omega

/-- A wait that times out leaves PWT_END and PWT_DURATION as the acceptance cleared them (R174, R175). -/
theorem results_zero_in_wait {s : State} (hs : MeasurementFits s)
    (h : s.pwt.state = .waitRise ∨ s.pwt.state = .waitFall) : s.pwtEnd = 0#32 ∧ s.pwtDuration = 0#32 := by
  obtain ⟨-, -, -, hrise, hfall⟩ := hs
  rcases h with h | h
  · obtain ⟨⟨-, hend, hduration⟩, -⟩ := hrise h
    exact ⟨hend, hduration⟩
  · obtain ⟨hend, hduration, -⟩ := hfall h
    exact ⟨hend, hduration⟩

/-- A tick that only counts, in each phase of a measurement. -/
theorem measurementFits_countedDown {s : State} (hs : MeasurementFits s)
    (hcounts : (s.pwt.state = .trigLow ∨ s.pwt.state = .trigHigh) ∧ s.pwt.r - 1#32 ≠ 0#32 ∨
      (s.pwt.state = .waitRise ∨ s.pwt.state = .waitFall) ∧ s.pwt.r ≠ 0#32) :
    MeasurementFits (countedDown s 1) := by
  obtain ⟨-, hlow, hhigh, hrise, hfall⟩ := hs
  simp only [MeasurementFits, countedDown]
  rcases hcounts with ⟨h | h, hr⟩ | ⟨h | h, hr⟩ <;> rw [h]
  · exact ⟨nofun, fun _ => ⟨(hlow h).1, hr⟩, nofun, nofun, nofun⟩
  · exact ⟨nofun, nofun, fun _ => ⟨(hhigh h).1, hr⟩, nofun, nofun⟩
  · obtain ⟨hzero, hle⟩ := hrise h
    have hlt := toNat_sub_one hr
    exact ⟨nofun, nofun, nofun, fun _ => ⟨hzero, by omega⟩, nofun⟩
  · obtain ⟨hend, hduration, hle, hticks⟩ := hfall h
    have hlt := toNat_sub_one hr
    exact ⟨nofun, nofun, nofun, nofun, fun _ =>
      ⟨hend, hduration, by omega, ticks_add_one_of_fallWait hticks⟩⟩

/-- A tick keeps the invariant: each phase begins with its legal length or the whole budget, and the fall wait
ends with the duration the counter and the remaining ticks agree on. -/
theorem measurementFits_tick {s : State} (hlegal : s.par.Legal) (hcons : TimerConsistent s)
    (hs : MeasurementFits s) (e : Level) : MeasurementFits (s.tick e) := by
  have ⟨hidle, hlow, hhigh, hrise, hfall⟩ := hs
  rcases tick_cases s e with ⟨hstate, h⟩ | ⟨hcounts, h⟩ | ⟨hstate, h⟩ | ⟨hstate, h⟩ | ⟨ph, hstate, h⟩ |
    ⟨hstate, hr, h⟩ | ⟨hstate, hr, h⟩ <;> rw [h]
  · simp only [MeasurementFits, hstate]
    exact ⟨fun _ => hidle hstate, nofun, nofun, nofun, nofun⟩
  · exact measurementFits_countedDown hs hcounts
  · obtain ⟨-, -, hhighTicks, -⟩ := hlegal
    exact ⟨nofun, nofun, fun _ => ⟨(hlow hstate).1, hhighTicks⟩, nofun, nofun⟩
  · exact ⟨nofun, nofun, nofun, fun _ => ⟨(hhigh hstate).1, le_rfl⟩, nofun⟩
  · have hphase : errPhase ph ≠ 0b00#2 := by cases ph <;> decide
    have hzero := results_zero_in_wait hs hstate
    exact ⟨fun _ _ => ⟨fun h0 => absurd h0 hphase, fun _ => hzero⟩, nofun, nofun, nofun, nofun⟩
  · obtain ⟨⟨-, hend, hduration⟩, -⟩ := hrise hstate
    exact ⟨nofun, nofun, nofun, nofun, fun _ => ⟨hend, hduration, le_rfl, by simp⟩⟩
  · obtain ⟨-, -, hle, hticks⟩ := hfall hstate
    obtain ⟨hbusy, -, hclear⟩ := hcons
    have hphase : s.status.pwtErrPhase = 0b00#2 := by
      by_contra hne
      simpa [hbusy.2 (by simp [hstate])] using hclear hne
    exact ⟨fun _ _ => ⟨fun _ => ⟨rfl, duration_bounds hticks hr hle⟩, fun hne => absurd hphase hne⟩,
      nofun, nofun, nofun, nofun⟩

/-- Settles O46: a tick and an acceptance keep the invariant, a reset establishes it, and every other event
leaves the timer alone and does not set PWT_DONE. -/
theorem stepKeepsMeasurementBounds : Obligations.StepKeepsMeasurementBounds := by
  intro s t hlegal hcons hs h
  have htake := sameBlock_takeEvent s
  have hs₁ := measurementFits_of_sameBlock htake hs
  rcases step_next h with ⟨d, -, rfl⟩ | ⟨d, -, rfl⟩ | ⟨e, -, rfl⟩ | ⟨-, rfl⟩ | ⟨-, hblock⟩ |
    ⟨-, s', off, v, r, hblock, -, -, hw⟩
  · exact measurementFits_btAnswer hs₁ d
  · exact hs₁
  · have hcons₁ := consistent_of_sameBlock htake hcons
    exact measurementFits_tick (par_of_sameBlock htake ▸ hlegal) (consistent_iff.1 hcons₁).2 hs₁ e
  · exact ⟨nofun, nofun, nofun, nofun, nofun⟩
  · exact measurementFits_of_sameBlock hblock hs
  · have hs' := measurementFits_of_sameBlock hblock hs
    rcases regWrite_next hw with hr | ⟨i, -, -, -, -, rfl⟩
    · obtain ⟨-, -, hphase⟩ := sameReports_of_registersOnly hr
      exact measurementFits_congr (sameTimer_of_registersOnly hr) hphase (pwtDone_of_regWrite hw) hs'
    · exact measurementFits_accepted (par_of_sameBlock hblock ▸ hlegal) hs' i

/-! ## The end of a measurement -/

/-- A bound on the ticks a measurement still takes (R177, R181): what remains of the phase, and the phases to
come, each wait with the whole budget and the tick of its timeout at most. -/
def ticksToEnd (s : State) : Nat :=
  match s.pwt.state with
  | .idle => 0
  | .trigLow => s.pwt.r.toNat + s.par.trigHigh.toNat + 2 * s.pwt.timeout.toNat + 1
  | .trigHigh => s.pwt.r.toNat + 2 * s.pwt.timeout.toNat + 1
  | .waitRise => s.pwt.r.toNat + s.pwt.timeout.toNat + 1
  | .waitFall => s.pwt.r.toNat + 1

theorem ticksToEnd_eq_zero_iff {s : State} : ticksToEnd s = 0 ↔ s.pwt.state = .idle := by
  cases h : s.pwt.state <;> simp [ticksToEnd, h]

/-- Every tick of a measurement takes one off the bound. -/
theorem ticksToEnd_tick {s : State} (hs : MeasurementFits s) (e : Level) :
    ticksToEnd (s.tick e) ≤ ticksToEnd s - 1 := by
  obtain ⟨-, hlow, hhigh, -, -⟩ := hs
  rcases tick_cases s e with ⟨hstate, h⟩ | ⟨hcounts, h⟩ | ⟨hstate, h⟩ | ⟨hstate, h⟩ | ⟨ph, hstate, h⟩ |
    ⟨hstate, hr, h⟩ | ⟨hstate, hr, h⟩ <;> rw [h]
  · simp [ticksToEnd, hstate]
  · have hr : s.pwt.r ≠ 0#32 := by
      rcases hcounts with ⟨hstate | hstate, -⟩ | ⟨-, hr⟩
      · exact (hlow hstate).2
      · exact (hhigh hstate).2
      · exact hr
    have hlt := toNat_sub_one hr
    cases hstate : s.pwt.state <;> simp only [ticksToEnd, countedDown, hstate] <;> omega
  · have hlt := toNat_sub_one (hlow hstate).2
    simp only [ticksToEnd, hstate]
    omega
  · have hlt := toNat_sub_one (hhigh hstate).2
    simp only [ticksToEnd, hstate]
    omega
  · simp [ticksToEnd]
  · have hlt := toNat_sub_one hr
    simp only [ticksToEnd, hstate]
    omega
  · simp [ticksToEnd]

/-- What a tick keeps of a measurement that has begun: the timer's invariants under legal parameters, and
PWT_DONE where the measurement has ended. -/
abbrev MeasurementBegun (s : State) : Prop :=
  s.par.Legal ∧ TimerConsistent s ∧ MeasurementFits s ∧
    (s.pwt.state = .idle → s.status.pwtDone = true)

theorem pwtBusy_eq_false_iff {s : State} (hs : TimerConsistent s) :
    s.status.pwtBusy = false ↔ s.pwt.state = .idle := by
  obtain ⟨hbusy, -⟩ := hs
  rw [← Bool.not_eq_true, hbusy, not_not]

theorem measurementBegun_tick {s : State} (hs : MeasurementBegun s) (e : Level) :
    MeasurementBegun (s.tick e) := by
  obtain ⟨hlegal, hcons, hfits, hdone⟩ := hs
  have hcons' := timerConsistent_tick hcons e
  refine ⟨(tick_par s e).symm ▸ hlegal, hcons', measurementFits_tick hlegal hcons hfits e, fun hidle => ?_⟩
  rcases tick_status_cases s e with h | ⟨-, h | ⟨ph, h⟩⟩
  · have hbusy : s.status.pwtBusy = false := h ▸ (pwtBusy_eq_false_iff hcons').2 hidle
    rw [h]
    exact hdone ((pwtBusy_eq_false_iff hcons).1 hbusy)
  · rw [h]
    rfl
  · rw [h]
    rfl

/-- A run of ticks keeps what a tick keeps, and each of its ticks takes one off the bound. -/
theorem runTicks_measurementBegun {s : State} (hs : MeasurementBegun s) (es : List Level) :
    MeasurementBegun (runTicks s es) ∧ ticksToEnd (runTicks s es) ≤ ticksToEnd s - es.length := by
  induction es using List.reverseRecOn with
  | nil => exact ⟨hs, le_rfl⟩
  | append_singleton es e ih =>
    obtain ⟨hrun, hle⟩ := ih
    have ⟨_, _, hfits, _⟩ := hrun
    have htick := ticksToEnd_tick hfits e
    rw [runTicks_concat, List.length_append, List.length_singleton]
    exact ⟨measurementBegun_tick hrun e, by omega⟩

theorem measurementBegun_accepted {s : State} (hlegal : s.par.Legal) :
    MeasurementBegun (accepted .pulseMeasure s) :=
  ⟨hlegal, timerConsistent_accepted_pulseMeasure s, measurementFits_accepted_pulseMeasure hlegal, nofun⟩

/-- Settles O29: the bound is that of the acceptance, so after that many ticks none is left. -/
theorem measurementEndsWithinItsBound : Obligations.MeasurementEndsWithinItsBound := by
  intro s t echo hidle hlegal hexec hlen
  obtain rfl : t = accepted .pulseMeasure s := eq_accepted_of_exec rfl hidle hexec
  obtain ⟨⟨-, hcons, -, hdone⟩, hle⟩ := runTicks_measurementBegun (measurementBegun_accepted hlegal) echo
  have hbound : ticksToEnd (accepted .pulseMeasure s) =
      s.par.trigLow.toNat + s.par.trigHigh.toNat + 2 * s.pwtTimeout.toNat + 1 := rfl
  have hend : (runTicks (accepted .pulseMeasure s) echo).pwt.state = .idle :=
    ticksToEnd_eq_zero_iff.1 (by omega)
  have hbusy := (pwtBusy_eq_false_iff hcons).2 hend
  obtain ⟨-, htrig, -⟩ := hcons
  exact ⟨hbusy, hdone hend, hend, by simpa [hend] using htrig⟩

end Sys2Proof.Proofs

/-! SUPPORT. What a host write to CMD leaves at once, and the WRITE_BLOCK of two bytes beside the WRITE_REG of
the same bytes (20_memory.md section 4, 41_bus_transactor.md section 3). -/

namespace Sys2Proof.Proofs

open Sys2Proof.Machine Sys2Proof.Laws Sys2Proof.Safety

/-! ## A write to CMD -/

/-- An accepted command leaves its unit busy (R131, R172). -/
theorem busy_accepted (i : Instr) (s : State) : (accepted i s).busy i.unit = true := by
  cases i <;> rfl

theorem busy_rejectBusy (s : State) (u : BlockUnit) : s.rejectBusy.busy u = s.busy u := by
  cases u <;> rfl

/-- Settles O9: a word that decodes is rejected by a busy unit and accepted by an idle one; every other word is
illegal. -/
theorem acceptanceIsVisibleAtOnce : Obligations.AcceptanceIsVisibleAtOnce := by
  intro s w
  cases hd : decode w with
  | error r => exact ⟨_, cmdWrite_error hd s, nofun, fun _ _ => rfl⟩
  | ok i =>
    obtain ⟨hw, -⟩ := decodedWordsEncodeBack w i hd
    cases hbusy : s.busy i.unit with
    | true =>
      refine ⟨_, (hostWrite_cmd_ok hd s).trans (exec_of_busy hw hbusy), fun j hj => ?_, nofun⟩
      cases hj
      exact ⟨(busy_rejectBusy s _).trans hbusy, fun _ => rfl⟩
    | false =>
      refine ⟨_, (hostWrite_cmd_ok hd s).trans (exec_of_idle hw hbusy), fun j hj => ?_, nofun⟩
      cases hj
      exact ⟨busy_accepted i s, fun h => absurd h (by simp [hbusy])⟩

/-! ## Two bytes as a register write and as a block -/

/-- The first two bytes of the block buffer are the low bytes of WBUF0 (R32). -/
theorem take_two_block (s : State) :
    s.block.toList.take 2 = [s.wbuf0.setWidth 8, (s.wbuf0 >>> 8).setWidth 8] := by
  have hlow : s.wbuf0.setWidth 8 = wordByte s.wbuf0 0 := BitVec.setWidth_eq_extractLsb' (by decide)
  have hhigh : (s.wbuf0 >>> 8).setWidth 8 = wordByte s.wbuf0 1 := BitVec.setWidth_ushiftRight_eq_extractLsb
  rw [hlow, hhigh]
  rfl

/-- The answer to an operation of one write does not depend on the operands the BT has latched beside it. -/
theorem btAnswer_writeBegun_congr (s : State) {bt bt' : Bt} (h : bt.state = .write) (h' : bt'.state = .write)
    (dev : DevAddr) (bytes : List Byte) (d : Draw) :
    ((writeBegun s bt' (.write dev bytes false)).btAnswer d).status =
        ((writeBegun s bt (.write dev bytes false)).btAnswer d).status ∧
      ((writeBegun s bt' (.write dev bytes false)).btAnswer d).trace =
        ((writeBegun s bt (.write dev bytes false)).btAnswer d).trace ∧
      ((writeBegun s bt' (.write dev bytes false)).btAnswer d).rdata =
        ((writeBegun s bt (.write dev bytes false)).btAnswer d).rdata := by
  cases d with
  | ok b =>
    rw [btAnswer_writeBegun_ok h, btAnswer_writeBegun_ok h']
    exact ⟨rfl, rfl, rfl⟩
  | error k =>
    rw [btAnswer_writeBegun_error h, btAnswer_writeBegun_error h']
    exact ⟨rfl, rfl, rfl⟩

/-- Settles O19: both acceptances begin the operation of the one write [sub, val]. -/
theorem twoByteBlockEqualsRegisterWrite : Obligations.TwoByteBlockEqualsRegisterWrite := by
  rintro s dev _ _ d rfl rfl hidle
  refine ⟨_, _, exec_of_idle rfl hidle, exec_of_idle rfl hidle, ?_⟩
  rw [accepted_writeReg, accepted_writeBlock, show (2#5).toNat = 2 from rfl, take_two_block]
  exact ⟨rfl, rfl, btAnswer_writeBegun_congr s (by rfl) (by rfl) dev _ d⟩

end Sys2Proof.Proofs
